-- ==== Sys2Proof/Word.lean ====
section
/-! DEFINITION. The values the block moves (00_scope.md R5, R9; 10_state.md R22 to R26): bytes, 16-bit fields, the
opaque host name, and the one-value type of a register that is hardwired to 0. -/

namespace Sys2Proof

/-- A byte, 0..255 (R9). -/
abbrev Byte := BitVec 8

/-- A 16-bit field: the universe and the port (R5: `UNIVERSE_BITS` and `PORT_BITS` are 16). -/
abbrev Half := BitVec 16

/-- The opaque type `Host` of R5, "IPv4 dotted-quad or hostname". The block stores it and hands it on; it never looks
inside (R22). -/
abbrev HostName := String

/-- The contents of an 8-bit register that is hardwired to 0 (`seq` R25, `phys` R26): it can hold nothing else, so no
command and no state can make it count (R155, U1). -/
inductive HardZero where
  | zero
  deriving DecidableEq, Repr

/-- What reading a hardwired register gives (R25, R26). -/
def HardZero.value : HardZero → Byte
  | .zero => 0#8

end Sys2Proof
end

