-- ==== Sys2Proof/Syntax.lean ====
section
/-! DEFINITION. The six commands (30_encoding.md R73), their operands (R72), and the form in which a command is
presented to the block: an 8-bit command word with the operands beside it (R71). -/

namespace Sys2Proof

/-- A channel frame as it is presented: integers, any number of them (R41, R72), so that a bad value or a bad length
can be presented and rejected. -/
abbrev Frame := List Int

/-- The commands, one constructor per row of the opcode table, each with the operands R72 gives it. An operand that may
be omitted is an `Option`: `none` is a presence bit of 0. -/
inductive Instr where
  /-- CREATE (41_sender.md R112). -/
  | create (host : Option HostName) (port : Option Half) (univ : Option Int)
  /-- CONFIGURE (R113). -/
  | configure (host : Option HostName) (port : Option Half) (univ : Option Int)
  /-- SET_UNIVERSE (R114). -/
  | setUniverse (univ : Int)
  /-- SEND (R115). -/
  | send (frame : Frame)
  /-- CLOSE (R116). -/
  | close
  /-- ENCODE (40_encoder.md R93). -/
  | encode (seq phys : Byte) (univ : Half) (frame : Frame)
  deriving DecidableEq, Repr

/-- The operand lanes beside the command word (R72), one lane for each operand type. A command reads the lanes its word
selects and no other. DESIGN CHOICE (log 10), safe: a lane that is not selected may hold anything. -/
structure Operands where
  /-- `host` of CREATE and CONFIGURE, read if bit H is 1. -/
  host : HostName
  /-- `port` of CREATE and CONFIGURE, read if bit P is 1. -/
  port : Half
  /-- `universe` of CREATE and CONFIGURE (if bit U is 1) and of SET_UNIVERSE: any integer. -/
  univ : Int
  /-- `frame` of SEND and ENCODE. -/
  frame : Frame
  /-- `seq` of ENCODE. -/
  seq : Byte
  /-- `phys` of ENCODE. -/
  phys : Byte
  /-- `universe` of ENCODE: typed to its 16 bits (R72, D6). -/
  encUniv : Half
  deriving DecidableEq, Repr

/-- Every lane zero or empty: operands of zeros. -/
def Operands.zero : Operands :=
  { host := "", port := 0#16, univ := 0, frame := [], seq := 0#8, phys := 0#8, encUniv := 0#16 }

/-- A command as it is presented to the block: the word `c` of R71 and the operands of R72. -/
structure Command where
  word : Byte
  operands : Operands
  deriving DecidableEq, Repr

end Sys2Proof
end

