-- ==== Sys2Proof/WellFormed.lean ====
section
/-! DEFINITION. When a command word is well formed (30_encoding.md R75). Every term of `Instr` is well formed, because
the types of its fields are the widths of R72 (U15: an operand outside its type cannot be presented). What can be ill
formed is the word, in the three ways R75 names; they are written here with division and remainder, apart from the bit
fields the decoder reads, so that the two can be held against each other. -/

namespace Sys2Proof

/-- `c[7:6] = 00`. -/
def Command.reservedBitsClear (c : Byte) : Bool := c.toNat / 64 == 0

/-- `OP` is neither 000 nor 111. -/
def Command.opDefined (c : Byte) : Bool := c.toNat % 8 != 0 && c.toNat % 8 != 7

/-- `c[5:3] = 000`, unless `OP` is CREATE (001) or CONFIGURE (010), which have optional operands. -/
def Command.presenceAllowed (c : Byte) : Bool :=
  c.toNat % 8 == 1 || c.toNat % 8 == 2 || c.toNat / 8 % 8 == 0

/-- The words R75 does not reserve. -/
def Command.wordWellFormed (c : Byte) : Bool :=
  Command.reservedBitsClear c && Command.opDefined c && Command.presenceAllowed c

end Sys2Proof
end

