-- ==== Sys2Proof/Decode.lean ====
section
/-! DEFINITION. Decoding a presented command (30_encoding.md R71, R73, R74, R75), total on every word and every operand
record, and the encoder written from the same tables. A reserved word is rejected under the name of the clause of R75
that reserves it. -/

namespace Sys2Proof

/-- The three ways a word is reserved (R75). -/
inductive DecodeError where
  /-- `c[7:6] != 00`. -/
  | reservedBits
  /-- OP = 000 or OP = 111. -/
  | reservedOp
  /-- A presence bit on a command that has no optional operand. -/
  | strayPresence
  deriving DecidableEq, Repr

/-- `c[2:0]`, the operation (R71). -/
def opField (c : Byte) : BitVec 3 := c.extractLsb' 0 3

/-- `c[3]`, H: a host operand is present (R71). -/
def hostBit (c : Byte) : Bool := c.getLsbD 3

/-- `c[4]`, P: a port operand is present (R71). -/
def portBit (c : Byte) : Bool := c.getLsbD 4

/-- `c[5]`, U: a universe operand is present (R71). -/
def univBit (c : Byte) : Bool := c.getLsbD 5

/-- `c[7:6]`, reserved (R71). -/
def reservedField (c : Byte) : BitVec 2 := c.extractLsb' 6 2

/-- An optional operand: the lane where its presence bit is 1, omitted where it is 0 (R74). -/
def optionalLane {α : Type} (present : Bool) (lane : α) : Option α :=
  match present with
  | true => some lane
  | false => none

/-- A command without optional operands: its presence bits must be zero (R75). -/
def plainCommand (c : Byte) (i : Instr) : Except DecodeError Instr :=
  if hostBit c || portBit c || univBit c then .error .strayPresence else .ok i

/-- The command a presented word and its operands stand for (R73), or the reason R75 reserves the word. -/
def decode (c : Command) : Except DecodeError Instr :=
  let w := c.word
  let o := c.operands
  if reservedField w = 0#2 then
    match (opField w).toNat with
    | 1 => .ok (.create (optionalLane (hostBit w) o.host) (optionalLane (portBit w) o.port) (optionalLane (univBit w) o.univ))
    | 2 => .ok (.configure (optionalLane (hostBit w) o.host) (optionalLane (portBit w) o.port) (optionalLane (univBit w) o.univ))
    | 3 => plainCommand w (.setUniverse o.univ)
    | 4 => plainCommand w (.send o.frame)
    | 5 => plainCommand w .close
    | 6 => plainCommand w (.encode o.seq o.phys o.encUniv o.frame)
    | _ => .error .reservedOp
  else .error .reservedBits

/-- A command word from its fields: `00 U P H OP` (R71). -/
def makeWord (u p h : Bool) (op : BitVec 3) : Byte :=
  0#2 ++ BitVec.ofBool u ++ BitVec.ofBool p ++ BitVec.ofBool h ++ op

/-- The word and operands that present a command (R71 to R74). A lane the command does not have is zero or empty. -/
def encode : Instr → Command
  | .create host port univ =>
    { word := makeWord univ.isSome port.isSome host.isSome 1#3
      operands := { Operands.zero with host := host.getD "", port := port.getD 0#16, univ := univ.getD 0 } }
  | .configure host port univ =>
    { word := makeWord univ.isSome port.isSome host.isSome 2#3
      operands := { Operands.zero with host := host.getD "", port := port.getD 0#16, univ := univ.getD 0 } }
  | .setUniverse univ => { word := makeWord false false false 3#3, operands := { Operands.zero with univ := univ } }
  | .send frame => { word := makeWord false false false 4#3, operands := { Operands.zero with frame := frame } }
  | .close => { word := makeWord false false false 5#3, operands := Operands.zero }
  | .encode seq phys univ frame =>
    { word := makeWord false false false 6#3
      operands := { Operands.zero with seq := seq, phys := phys, encUniv := univ, frame := frame } }

/-- A table word as it is presented with operands of zeros: the word has 8 bits (R71), every bit above them is 0, and
the operands beside it are zero or empty (log 10). -/
def tableCommand (w : Nat) : Command := { word := BitVec.ofNat 8 w, operands := Operands.zero }

/-- The command the decoder reads from a row's word, numbered as the opcode table numbers its bits; none where it
refuses, and none for a number that is no 8-bit word. -/
def decodeTableWord (nbits w : Nat) : Option Instr :=
  if 8 ≤ nbits ∧ w < 256 then
    match decode (tableCommand w) with
    | .ok i => some i
    | .error _ => none
  else none

end Sys2Proof
end

