-- ==== Sys2Proof/Config.lean ====
section
/-! DEFINITION. The parameters of 00_scope.md R5: what the source fixes (constants), what a model takes as a parameter
(`Params`, carried in the state so that a statement about every state is a statement about every value of it), and the
values the spec says a proof must not depend on (R172: opaque, no body). -/

namespace Sys2Proof.Config

/-- `MAX_FRAME_LEN` of R5. -/
def maxFrameLen : Nat := 65535

/-- `FIXED_LEN` of R5: the offset of the first data byte. -/
def fixedLen : Nat := 18

/-- `DEFAULT_UNIVERSE` of R5. -/
def defaultUniverse : Half := 0#16

/-- The two parameters a model takes from outside: `DEFAULT_HOST` (R6) and `DEFAULT_PORT` (R7). -/
structure Params where
  defaultHost : HostName
  defaultPort : Half
  deriving DecidableEq, Repr

/-- PRESUMED (log 7): the default values that R6 and R7 supply from general knowledge, decisions D27 and D28.
Unsafe where a claim rests on the two numbers. -/
def standard : Params := { defaultHost := "255.255.255.255", defaultPort := 6454#16 }

/-- DESIGN CHOICE (log 6), safe: what `host` holds before any CREATE. R172: a model "must not let a proof depend on
one", so the constant has no body. -/
opaque absentHost : HostName

/-- DESIGN CHOICE (log 6), safe: what `port` holds before any CREATE (R172). -/
opaque absentPort : Half

/-- DESIGN CHOICE (log 6), safe: what `universe` holds before any CREATE (R172). -/
opaque absentUniverse : Half

end Sys2Proof.Config
end

