-- ==== Sys2Proof/Machine/Operands.lean ====
section
/-! DEFINITION. The operand forms and the checks on them (40_encoder.md R90, R96; 41_sender.md R110; 30_encoding.md R74),
and the byte splitting of the two 16-bit packet fields (20_memory.md R43). -/

namespace Sys2Proof.Machine

/-- A frame element that a byte can carry: `0 <= v <= 255` (R90). -/
def byteInRange (v : Int) : Bool := decide (0 ≤ v) && decide (v ≤ 255)

/-- `validFrame(f)` (R90). An empty frame is valid. -/
def validFrame (f : Frame) : Bool := decide (f.length ≤ Config.maxFrameLen) && f.all byteInRange

/-- `validUniverse(v)` (R110). -/
def validUniverse (v : Int) : Bool := decide (0 ≤ v) && decide (v ≤ 65535)

/-- The universe check of CREATE and CONFIGURE: made on a present operand only (R112, R113). -/
def validUniverseOperand : Option Int → Bool
  | none => true
  | some v => validUniverse v

/-- An optional operand, or what stands in for it where it is omitted: the default at CREATE, the register's own value
at CONFIGURE (R74). -/
def operandOr {α : Type} (operand : Option α) (otherwise : α) : α :=
  match operand with
  | some v => v
  | none => otherwise

/-- The register value of a universe operand that passed `validUniverse` (R24, R110). -/
def halfOfInt (v : Int) : Half := BitVec.ofInt 16 v

/-- The byte of a frame element that passed `validFrame`: the element unchanged (R68, R97). -/
def byteOfInt (v : Int) : Byte := BitVec.ofInt 8 v

/-- `u & 0xFF` (R66). -/
def lowByte (u : Half) : Byte := (u &&& 0xFF#16).setWidth 8

/-- `(u >> 8) & 0xFF` (R66). -/
def highByte (u : Half) : Byte := ((u >>> 8) &&& 0xFF#16).setWidth 8

/-- `floor(L / 256)` (R67). -/
def lengthHigh (len : Nat) : Byte := BitVec.ofNat 8 (len / 256)

/-- `L % 256` (R67). -/
def lengthLow (len : Nat) : Byte := BitVec.ofNat 8 (len % 256)

end Sys2Proof.Machine
end

