-- ==== Sys2Proof/Machine/State.lean ====
section
/-! DEFINITION. The state of one sender (10_state.md R20 to R28), the refusal mark (60_exceptions.md R145), the responses
(30_encoding.md R76), and the inputs of a step that R32 calls parameters of the step (the commands presented, the order
in which they are taken, the transport's answer, the parameters of R5). The block has no program counter, no condition
codes, no register file and no memory that outlives a command (R29, R30, R31, R40). -/

namespace Sys2Proof.Machine

/-- The lifecycle register `life` (R21). -/
inductive Life where
  /-- `ABSENT`: before any CREATE. -/
  | absent
  /-- `OPEN`. -/
  | opened
  /-- `CLOSED`: terminal; only a CREATE, which starts a new sender, leaves it. -/
  | closed
  deriving DecidableEq, Repr

/-- The state of the transport resource (R27). -/
inductive Xport where
  | held
  | released
  deriving DecidableEq, Repr

/-- The resource is in broadcast-enabled mode exactly while it is held (R27, R154, decision D20). -/
def Xport.broadcastEnabled : Xport → Bool
  | .held => true
  | .released => false

/-- An answer of the transport to an acquisition (R154) or to a submission (R153). -/
inductive Answer where
  | ok
  | fail
  deriving DecidableEq, Repr

/-- The five statuses (R140). -/
inductive Status where
  | ok
  | invalidChannelFrame
  | invalidUniverse
  | senderClosed
  | transportFailure
  deriving DecidableEq, Repr

/-- The numeric code of a status (R140, decision D7). -/
def Status.code : Status → Nat
  | .ok => 0
  | .invalidChannelFrame => 1
  | .invalidUniverse => 2
  | .senderClosed => 3
  | .transportFailure => 4

/-- What a command that is not refused returns (R76). -/
structure Response where
  status : Status
  data : List Byte
  deriving DecidableEq, Repr

/-- One entry `DISPATCH(host, port, bytes)` of the history (R28). -/
structure Event where
  host : HostName
  port : Half
  bytes : List Byte
  deriving DecidableEq, Repr

/-- One command presented by a caller, with the transport's answer for it (R181: "each with the transport's answers for
it"; a command asks the transport at most once, R112, R115). -/
structure Request where
  command : Command
  answer : Answer
  deriving DecidableEq, Repr

/-- The state of one sender and the inputs its next steps read. -/
structure State where
  /-- `life` (R21). -/
  life : Life
  /-- `host` (R22). -/
  host : HostName
  /-- `port` (R23), 16 bits. -/
  port : Half
  /-- `universe` (R24), 16 bits. -/
  univ : Half
  /-- `seq` (R25), 8 bits, hardwired to 0. -/
  seq : HardZero
  /-- `phys` (R26), 8 bits, hardwired to 0. -/
  phys : HardZero
  /-- `xport` (R27). -/
  xport : Xport
  /-- `H`, the event history (R28), oldest first. -/
  history : List Event
  /-- The refusal mark (R145): set by a refused command, never cleared. -/
  refusalMark : Bool
  /-- The responses so far (R76, R181), oldest first. -/
  responses : List Response
  /-- The model's own field: the parameters `DEFAULT_HOST` and `DEFAULT_PORT` (R6, R7). Nothing writes it. -/
  params : Config.Params
  /-- The model's own field (log 3): the transport's answer for the command at hand, a draw of the `TransportOracle`
  (R15). -/
  answer : Answer
  /-- The model's own field (log 2): the commands each caller has outstanding, in that caller's order (R51). -/
  callers : List (List Request)
  /-- The model's own field (log 2): the callers in the order in which they get a turn. R51 leaves it open; it is data,
  so that a statement about every state holds for every interleaving. -/
  schedule : List Nat
  deriving DecidableEq, Repr

/-- The power-on state, before any CREATE (R172). The three registers that "hold no value" hold constants nothing can be
proved of (log 6). -/
def State.powerOn : State :=
  { life := .absent
    host := Config.absentHost
    port := Config.absentPort
    univ := Config.absentUniverse
    seq := .zero
    phys := .zero
    xport := .released
    history := []
    refusalMark := false
    responses := []
    params := Config.standard
    answer := .ok
    callers := []
    schedule := [] }

/-- The reset state (R170, R171): after a CREATE with no operands that returned OK, from power-on; nothing is presented
yet. DEDUCED (log 1): "reset" is the spec's own word for this state; power-on is `State.powerOn`. Unsafe for a claim about
runs from here only, if reset were taken to mean power-on. The two default values are PRESUMED (log 7), the empty
responses, queues and schedule and the answer OK are DESIGN CHOICE (logs 2, 3, 13). -/
def State.reset : State :=
  { life := .opened
    host := Config.standard.defaultHost
    port := Config.standard.defaultPort
    univ := Config.defaultUniverse
    seq := .zero
    phys := .zero
    xport := .held
    history := []
    refusalMark := false
    responses := []
    params := Config.standard
    answer := .ok
    callers := []
    schedule := [] }

/-- The reasons a step stops with a fault: none. 93_implementation_defined.md, end of Part 1: "No behaviour of the block
is a `fault` or `stuck` case". The type has no constructor, so nothing raises one. -/
inductive Fault where
  deriving DecidableEq, Repr

/-- The reasons a step answers that an instruction has no meaning. A command the SPEC refuses is not here: it sets the
refusal mark and the run goes on (R145, log 4). -/
inductive Refusal where
  /-- An instruction of the table that the model does not give a meaning to. Safe. No arm of `exec` raises it. -/
  | notModelled (mnemonic : String)
  deriving DecidableEq, Repr

end Sys2Proof.Machine
end

