-- ==== Sys2Proof/Machine/Ops.lean ====
section
/-! DEFINITION. The named operations on the state: register writes, the history, the response of a command, raising an
error (the block's only exception mechanism, 60_exceptions.md R146), refusing a command (R145), the transport port (R153,
R154), and the presentation of commands by the callers (20_memory.md R51). There is no return from an exception and
nothing to restore (R149). -/

namespace Sys2Proof.Machine

/-- `R.life <- v` (R21). -/
def State.setLife (s : State) (v : Life) : State := { s with life := v }

/-- `R.host <- v` (R22). -/
def State.setHost (s : State) (v : HostName) : State := { s with host := v }

/-- `R.port <- v` (R23). -/
def State.setPort (s : State) (v : Half) : State := { s with port := v }

/-- `R.universe <- v` (R24). -/
def State.setUniv (s : State) (v : Half) : State := { s with univ := v }

/-- `R.xport <- v` (R27). -/
def State.setXport (s : State) (v : Xport) : State := { s with xport := v }

/-- `H <- H ‖ [e]` (R28). -/
def State.appendEvent (s : State) (e : Event) : State := { s with history := s.history ++ [e] }

/-- Record the response of the command at hand (R76, R181). -/
def State.respond (s : State) (r : Response) : State := { s with responses := s.responses ++ [r] }

/-- Set the refusal mark (R145). No operation clears it. -/
def State.markRefused (s : State) : State := { s with refusalMark := true }

/-- The transport's answer for the command that is now taken (R15). -/
def State.setAnswer (s : State) (a : Answer) : State := { s with answer := a }

/-- The command ends with status OK and the given data (R76). -/
def complete (s : State) (bytes : List Byte) : Host.Outcome State Fault Refusal :=
  .next (s.respond { status := .ok, data := bytes })

/-- `raise E` (R14, R146): the command ends at once, on the state it began with, with status `E` and no data. There is no
trap vector, no saved state and no mode change. -/
def raise (s : State) (e : Status) : Host.Outcome State Fault Refusal :=
  .next (s.respond { status := e, data := [] })

/-- `refuse` (R14, R145): no register is written, no event appended, no status returned; the refusal mark is set and
kept. DEDUCED (log 4): this is a next state, because the mark is state and the run goes on.
Unsafe for a claim about a program that does not have the clear mark as a premise (R181). -/
def refuse (s : State) : Host.Outcome State Fault Refusal := .next s.markRefused

/-- `draw Acquire()` (R154): the transport's answer to the acquisition of a resource. -/
def acquire (s : State) : Answer := s.answer

/-- `draw Submit(host, port, bytes)` (R153): the transport's answer to the submission of a packet. The block submits only
while `xport = HELD`; DEDUCED (log 9): in a state with no resource, which no run reaches, the submission cannot be
attempted. Safe. -/
def submit (s : State) (_e : Event) : Answer :=
  match s.xport with
  | .held => s.answer
  | .released => .fail

/-- Acquire the resource, broadcast-enabled (R112, R154). -/
def State.holdResource (s : State) : State := s.setXport .held

/-- Release the resource (R116, R154): it cannot fail and has no effect on `H`. -/
def State.releaseResource (s : State) : State := s.setXport .released

/-- CREATE on an open sender releases the old resource first (R112, decision D14). -/
def State.releaseOld (s : State) : State :=
  match s.life with
  | .opened => s.releaseResource
  | .absent => s
  | .closed => s

/-- The commands caller `c` has outstanding. -/
def State.outstanding (s : State) (c : Nat) : List Request := s.callers.getD c []

/-- The command that is taken next: the first one outstanding of the caller whose turn it is (R51). None where no turn is
scheduled, or where that caller has nothing outstanding. -/
def nextRequest (s : State) : Option Request :=
  match s.schedule with
  | [] => none
  | c :: _ => (s.outstanding c).head?

/-- The turn is over: the caller's first outstanding command, if any, is gone, and the next caller's turn comes. Where no
turn is scheduled nothing changes: the block waits for its next command (R170). -/
def takeTurn (s : State) : State :=
  match s.schedule with
  | [] => s
  | c :: cs => { s with callers := s.callers.set c (s.outstanding c).tail, schedule := cs }

/-- One caller presents a list of commands, and nobody else presents any (95_test_vectors.md Part 3; R181). -/
def State.withProgram (s : State) (rs : List Request) : State :=
  { s with callers := [rs], schedule := List.replicate rs.length 0 }

end Sys2Proof.Machine
end

