-- ==== Sys2Proof/Machine/Packet.lean ====
section
/-! DEFINITION. The two address spaces of a command, FRAME and PKT (20_memory.md R40 to R42), and the packet function
`artdmx` that writes the second from the first, byte by byte and in offset order (40_encoder.md R91, R92, R97). -/

namespace Sys2Proof.Machine

/-- The packet buffer PKT of one command (R42): the bytes written so far, at strictly rising offsets. An offset not
listed has not been written. It is created empty and discarded with the command (R31). -/
abbrev Pkt := List Host.Cell

/-- The canonical form of a buffer: offsets strictly rising, so each is listed once. An unlisted offset reads as nothing,
so no entry can equal what an unlisted offset reads as. -/
abbrev pktWf (p : Pkt) : Prop := (p.map Prod.fst).Pairwise (· < ·)

/-- The byte at one offset of PKT, if it has been written. -/
def pktRead : Pkt → Nat → Option Byte
  | [], _ => none
  | (a, b) :: p, k => if k = a then some b else pktRead p k

/-- `MemWrite(k, 1, v)` (R13): write one byte of PKT. -/
def memWrite : Pkt → Nat → Byte → Pkt
  | [], k, v => [(k, v)]
  | (a, b) :: p, k, v =>
    if k < a then (k, v) :: (a, b) :: p
    else if k = a then (k, v) :: p
    else (a, b) :: memWrite p k v

/-- `MemRead(i, 1)` (R13, R41): element `i` of the channel frame, where there is one. -/
def memRead (f : Frame) (i : Nat) : Option Int := f[i]?

/-- The whole buffer as a byte stream, in offset order (R42: "handed whole"). -/
def pktBytes (p : Pkt) : List Byte := p.map Prod.snd

/-- `HEADER` (R91): ID (R61), OpCode low byte first (R62), ProtVer high byte first (R63). The first seven byte values are
the ASCII codes of "Art-Net", PRESUMED from general knowledge as R61 says (log 8); unsafe if they
were others. -/
def header : List Byte :=
  [0x41#8, 0x72#8, 0x74#8, 0x2D#8, 0x4E#8, 0x65#8, 0x74#8, 0x00#8, 0x00#8, 0x50#8, 0x00#8, 0x0E#8]

/-- Write constant bytes from one offset on, in order (R92 step 1). -/
def writeBytes : List Byte → Nat → Pkt → Pkt
  | [], _, p => p
  | v :: vs, k, p => writeBytes vs (k + 1) (memWrite p k v)

/-- Copy `n` frame bytes from FRAME offset `i` on to PKT offset `18 + i` on, in order and unmodified (R92 step 5, R97). -/
def copyFrame (f : Frame) : Nat → Nat → Pkt → Pkt
  | 0, _, p => p
  | n + 1, i, p =>
    match memRead f i with
    | some v => copyFrame f n (i + 1) (memWrite p (Config.fixedLen + i) (byteOfInt v))
    | none => copyFrame f n (i + 1) p

/-- Bytes 0 to 17 of PKT (R92 steps 1 to 4). -/
def writeFixed (seq phys : Byte) (u : Half) (len : Nat) : Pkt :=
  let p := writeBytes header 0 []
  let p := memWrite p 12 seq
  let p := memWrite p 13 phys
  let p := memWrite p 14 (lowByte u)
  let p := memWrite p 15 (highByte u)
  let p := memWrite p 16 (lengthHigh len)
  memWrite p 17 (lengthLow len)

/-- PKT after the five steps of R92. -/
def artdmxPkt (seq phys : Byte) (u : Half) (f : Frame) : Pkt :=
  copyFrame f f.length 0 (writeFixed seq phys u f.length)

/-- `artdmx(seq, phys, u, f)` (R92): the packet. It is asked for valid frames only (R93, R115);
DESIGN CHOICE (log 18), safe: on another frame it reduces elements to 8 bits. -/
def artdmx (seq phys : Byte) (u : Half) (f : Frame) : List Byte := pktBytes (artdmxPkt seq phys u f)

end Sys2Proof.Machine
end

