-- ==== Sys2Proof/Machine/Encoder.lean ====
section
/-! DEFINITION. The PacketEncoder's command, ENCODE (40_encoder.md R93). -/

namespace Sys2Proof.Machine

/-- ENCODE (R93): the packet as the data of the response, or `InvalidChannelFrame`. It reads no register, not even
`life`, and writes none. -/
def execEncode (seq phys : Byte) (univ : Half) (frame : Frame) (s : State) : Host.Outcome State Fault Refusal :=
  if validFrame frame then complete s (artdmx seq phys univ frame) else raise s .invalidChannelFrame

end Sys2Proof.Machine
end

