-- ==== Sys2Proof/Machine/Flags.lean ====
section
/-! DEFINITION. The block has no status flags and no condition codes other than `life` (10_state.md R30). This file holds
what reads and writes `life` as a flag: the lifecycle gate of 41_sender.md R111, and opening and closing a sender. -/

namespace Sys2Proof.Machine

/-- The lifecycle gate of CONFIGURE, SET_UNIVERSE, SEND and CLOSE (R111): refuse in `ABSENT`, run in `OPEN`, raise
`SenderClosed` in `CLOSED`. CREATE runs in every state and ENCODE has no gate; neither uses it. -/
def gate (s : State) (run : Host.Outcome State Fault Refusal) : Host.Outcome State Fault Refusal :=
  match s.life with
  | .absent => refuse s
  | .opened => run
  | .closed => raise s .senderClosed

/-- `life` becomes `OPEN` with the resource held (R112). -/
def State.openSender (s : State) : State := s.holdResource.setLife .opened

/-- The resource is released and `life` becomes `CLOSED` (R116). -/
def State.closeSender (s : State) : State := s.releaseResource.setLife .closed

end Sys2Proof.Machine
end

