-- ==== Sys2Proof/Machine/Sender.lean ====
section
/-! DEFINITION. The AddressedSender's commands: CREATE, CONFIGURE, SET_UNIVERSE, SEND and CLOSE (41_sender.md R112 to
R116), with the checks in the order of 60_exceptions.md R147. -/

namespace Sys2Proof.Machine

/-- The registers of a new sender (R112): each operand, or its default where it is omitted. -/
def State.newSender (s : State) (host : Option HostName) (port : Option Half) (univ : Option Int) : State :=
  (((s.releaseOld.setHost (operandOr host s.params.defaultHost)).setPort (operandOr port s.params.defaultPort)).setUniv
    (operandOr (univ.map halfOfInt) Config.defaultUniverse)).openSender

/-- CREATE (R112), the block's reset (R170). -/
def execCreate (host : Option HostName) (port : Option Half) (univ : Option Int) (s : State) :
    Host.Outcome State Fault Refusal :=
  if validUniverseOperand univ then
    match acquire s with
    | .ok => complete (s.newSender host port univ) []
    | .fail => raise s .transportFailure
  else raise s .invalidUniverse

/-- The registers after CONFIGURE (R113): each present operand is written, an omitted one leaves its register. -/
def State.reconfigured (s : State) (host : Option HostName) (port : Option Half) (univ : Option Int) : State :=
  ((s.setHost (operandOr host s.host)).setPort (operandOr port s.port)).setUniv (operandOr (univ.map halfOfInt) s.univ)

/-- CONFIGURE (R113). -/
def execConfigure (host : Option HostName) (port : Option Half) (univ : Option Int) (s : State) :
    Host.Outcome State Fault Refusal :=
  gate s
    (if validUniverseOperand univ then complete (s.reconfigured host port univ) [] else raise s .invalidUniverse)

/-- SET_UNIVERSE (R114). -/
def execSetUniverse (univ : Int) (s : State) : Host.Outcome State Fault Refusal :=
  gate s (if validUniverse univ then complete (s.setUniv (halfOfInt univ)) [] else raise s .invalidUniverse)

/-- The event of a SEND (R115, R28): the packet from the registers at this step, and the endpoint it goes to. -/
def sendEvent (s : State) (frame : Frame) : Event :=
  { host := s.host, port := s.port, bytes := artdmx s.seq.value s.phys.value s.univ frame }

/-- SEND (R115). -/
def execSend (frame : Frame) (s : State) : Host.Outcome State Fault Refusal :=
  gate s
    (if validFrame frame then
      match submit s (sendEvent s frame) with
      | .ok => complete (s.appendEvent (sendEvent s frame)) []
      | .fail => raise s .transportFailure
    else raise s .invalidChannelFrame)

/-- CLOSE (R116). -/
def execClose (s : State) : Host.Outcome State Fault Refusal := gate s (complete s.closeSender [])

end Sys2Proof.Machine
end

