-- ==== Sys2Proof/Machine/Dispatch.lean ====
section
/-! DEFINITION. One arm per command of the opcode table. -/

namespace Sys2Proof.Machine

def exec (i : Instr) (s : State) : Host.Outcome State Fault Refusal :=
  match i with
  | .create host port univ => Sys2Proof.Machine.execCreate host port univ s
  | .configure host port univ => Sys2Proof.Machine.execConfigure host port univ s
  | .setUniverse univ => Sys2Proof.Machine.execSetUniverse univ s
  | .send frame => Sys2Proof.Machine.execSend frame s
  | .close => Sys2Proof.Machine.execClose s
  | .encode seq phys univ frame => Sys2Proof.Machine.execEncode seq phys univ frame s

end Sys2Proof.Machine
end

