-- ==== Sys2Proof/Machine/Present.lean ====
section
/-! DEFINITION. What one presented command does: it is decoded and executed, or refused (30_encoding.md R75). -/

namespace Sys2Proof.Machine

/-- One command is taken, with the transport's answer for it (R8, R181). A reserved word is refused: nothing but the
refusal mark changes (R75, R145). -/
def runRequest (r : Request) (s : State) : Host.Outcome State Fault Refusal :=
  match decode r.command with
  | .ok i => exec i (s.setAnswer r.answer)
  | .error _ => refuse s

/-- A program: a finite list of commands, executed in list order, stopping at the first that does not go on (R29, R181). -/
def runAll : List Request → State → Host.Outcome State Fault Refusal
  | [], s => .next s
  | r :: rs, s =>
    match runRequest r s with
    | .next s' => runAll rs s'
    | .fault e => .fault e
    | .refused e => .refused e

/-- The command a table word stands for, with operands of zeros and the transport's answer as the state has it. -/
def tableRequest (w : Nat) (a : Answer) : Request := { command := tableCommand w, answer := a }

/-- One request placed before everything caller 0 has outstanding. -/
def presentFirst (r : Request) : List (List Request) → List (List Request)
  | [] => [[r]]
  | q :: qs => (r :: q) :: qs

end Sys2Proof.Machine
end

