-- ==== Sys2Proof/Machine/Step.lean ====
section
/-! DEFINITION. One step: the instance takes one turn (00_scope.md R8, 20_memory.md R51). Nothing is fetched from memory
(R29, R56): the next command is the one the caller whose turn it is has presented. -/

namespace Sys2Proof.Machine

/-- One step. The caller whose turn it is has its first outstanding command executed; where it has none, its turn passes;
where no turn is scheduled, the block waits (R170; DESIGN CHOICE, log 5, safe). -/
def step (s : State) : Host.Outcome State Fault Refusal :=
  match nextRequest s with
  | some r => runRequest r (takeTurn s)
  | none => .next (takeTurn s)

/-- `s` with the word presented first, by caller 0, whose turn it is (log 1). -/
def State.withFetchWord (s : State) (_nbits w : Nat) : State :=
  { s with callers := presentFirst (tableRequest w s.answer) s.callers, schedule := 0 :: s.schedule }

end Sys2Proof.Machine
end

