-- ==== Sys2Proof/Machine/Platform.lean ====
section
/-! DEFINITION. A platform of several sender instances (60_exceptions.md R156, 20_memory.md R58): each is a machine of its
own, with its own registers, lifecycle, resource, history, responses and callers; they share nothing. -/

namespace Sys2Proof.Machine

/-- The instances of a platform. No command sees an index. -/
structure Platform where
  senders : List State
  deriving DecidableEq, Repr

/-- A platform of `n + 1` instances at power-on: `N_INSTANCES` is a model argument, at least 1 (R5, R172). -/
def Platform.powerOn (n : Nat) : Platform := { senders := List.replicate (n + 1) State.powerOn }

/-- Instance `k` takes one step. Where the platform has no instance `k` nothing happens. -/
def stepSender (k : Nat) (p : Platform) : Host.Outcome Platform Fault Refusal :=
  match p.senders[k]? with
  | none => .next p
  | some s =>
    match step s with
    | .next s' => .next { senders := p.senders.set k s' }
    | .fault r => .fault r
    | .refused r => .refused r

end Sys2Proof.Machine
end

