-- ==== Sys2Proof/Machine/Reference.lean ====
section
/-! DEFINITION. What claims about packets are stated with, and no part of the block: the wire format as the table of
30_encoding.md R60 gives it, field by field, and the reference decoder `DECODE` (R79, decision D29). -/

namespace Sys2Proof.Machine

/-- The wire format, transcribed from the table of R60 with the values of R61 to R68, for a universe `u` and a frame of
bytes. The block does not use it: it builds its packets with `artdmx`. -/
def wirePacket (seq phys : Byte) (u : Nat) (f : Frame) : List Byte :=
  [0x41#8, 0x72#8, 0x74#8, 0x2D#8, 0x4E#8, 0x65#8, 0x74#8, 0x00#8, 0x00#8, 0x50#8, 0x00#8, 0x0E#8] ++
    [seq, phys] ++ [BitVec.ofNat 8 (u % 256), BitVec.ofNat 8 (u / 256)] ++
    [BitVec.ofNat 8 (f.length / 256), BitVec.ofNat 8 (f.length % 256)] ++ f.map (fun v => BitVec.ofInt 8 v)

/-- What the reference decoder recovers from a packet. -/
structure PacketFields where
  seq : Byte
  phys : Byte
  univ : Half
  frame : Frame
  deriving DecidableEq, Repr

/-- `DECODE(P)` (R79): none is REJECT. -/
def decodePacket (bytes : List Byte) : Option PacketFields :=
  if bytes.take 12 = header then
    match bytes.drop 12 with
    | s :: ph :: u0 :: u1 :: l1 :: l0 :: payload =>
      if payload.length = 256 * l1.toNat + l0.toNat then
        some { seq := s, phys := ph, univ := BitVec.ofNat 16 (u0.toNat + 256 * u1.toNat),
               frame := payload.map (fun b => (b.toNat : Int)) }
      else none
    | _ => none
  else none

end Sys2Proof.Machine
end

