-- ==== Sys2Proof/Safety.lean ====
section
/-! DEFINITION. What a run shows (70_reset_and_hazards.md R181), which runs claims are about, and the invariant of every
reachable state (R174, R117, R76), in the terms the statements use. -/

namespace Sys2Proof.Machine

/-- The observation of a run: the history, the responses and the refusal mark (R181). -/
structure Observation where
  history : List Event
  responses : List Response
  refusalMark : Bool
  deriving DecidableEq, Repr

/-- What is observed of a state. -/
def State.observe (s : State) : Observation :=
  { history := s.history, responses := s.responses, refusalMark := s.refusalMark }

/-- A run a claim may be about: no command of it was refused (R145, R181). -/
abbrev State.Safe (s : State) : Prop := s.refusalMark = false

/-- A packet as the sender builds it: the reference decoder takes it, so its first 12 bytes are `HEADER` and its length
is the one its Length field tells, and its Sequence and Physical bytes are 0 (R117, R174, R69). -/
def senderPacket (bytes : List Byte) : Bool :=
  match decodePacket bytes with
  | some p => p.seq == 0#8 && p.phys == 0#8
  | none => false

/-- A response as R76 has it: no data but for a packet, and that with status OK only. -/
def responseWf (r : Response) : Bool :=
  match r.status with
  | .ok => r.data.isEmpty || (decodePacket r.data).isSome
  | .invalidChannelFrame => r.data.isEmpty
  | .invalidUniverse => r.data.isEmpty
  | .senderClosed => r.data.isEmpty
  | .transportFailure => r.data.isEmpty

/-- The invariant: the resource is held exactly while the sender is open (R27, R174); every packet in `H` is one the
sender builds (R117); every response is one of R76. -/
abbrev State.Inv (s : State) : Prop :=
  (s.xport = .held ↔ s.life = .opened) ∧ (∀ e ∈ s.history, senderPacket e.bytes = true) ∧
    ∀ r ∈ s.responses, responseWf r = true

end Sys2Proof.Machine
end

