-- ==== Sys2Proof/Certificates/Slice0/Obligations.lean ====
section
/-! DEFINITION. The statements for the provers. `s.answer` is the transport's answer for the command at hand (R15): a
statement that names it has it as a premise, and every other one holds for every answer. The block has no memory that
outlives a command, so a frame has no bytes of memory to name (R40). -/

open Sys2Proof Sys2Proof.Machine

/-! ## Commands and command words -/

/-- R71 to R74: what presents a command decodes to it, with every operand at every value.
The word format and the numbering are the spec's own decisions D3, D4 and D6 (log 21); the lanes are log 10. -/
def Obligations.DecodeInvertsEncode : Prop :=
  ∀ i : Instr, decode (encode i) = .ok i

/-- R71, R73: each command has one word for a given choice of operands, the one that was decoded.
Rests on the spec's decisions D3 and D4 (log 21). -/
def Obligations.EncodeGivesTheDecodedWordBack : Prop :=
  ∀ (c : Command) (i : Instr), decode c = .ok i → (encode i).word = c.word

/-- R75: a word is decoded exactly when it is none of the reserved words, whatever operands stand beside it; the name of
the rejection is the clause of R75.
Rests on the spec's decision D5 (log 21). -/
def Obligations.ReservedWordsExactly : Prop :=
  ∀ c : Command,
    ((∃ i, decode c = .ok i) ↔ Command.wordWellFormed c.word = true) ∧
      (decode c = .error .reservedBits ↔ Command.reservedBitsClear c.word = false) ∧
      (decode c = .error .reservedOp ↔
        Command.reservedBitsClear c.word = true ∧ Command.opDefined c.word = false) ∧
      (decode c = .error .strayPresence ↔
        Command.reservedBitsClear c.word = true ∧ Command.opDefined c.word = true ∧
          Command.presenceAllowed c.word = false)

/-- R73, R74: words written out bit by bit decode to the commands of the table.
Rests on the spec's decisions D3 and D4 (log 21). -/
def Obligations.WrittenOutWordsDecode : Prop :=
  ∀ o : Operands,
    decode ⟨0b00000001#8, o⟩ = .ok (.create none none none) ∧
      decode ⟨0b00111001#8, o⟩ = .ok (.create (some o.host) (some o.port) (some o.univ)) ∧
      decode ⟨0b00100010#8, o⟩ = .ok (.configure none none (some o.univ)) ∧
      decode ⟨0b00001010#8, o⟩ = .ok (.configure (some o.host) none none) ∧
      decode ⟨0b00010010#8, o⟩ = .ok (.configure none (some o.port) none) ∧
      decode ⟨0b00000011#8, o⟩ = .ok (.setUniverse o.univ) ∧
      decode ⟨0b00000100#8, o⟩ = .ok (.send o.frame) ∧
      decode ⟨0b00000101#8, o⟩ = .ok .close ∧
      decode ⟨0b00000110#8, o⟩ = .ok (.encode o.seq o.phys o.encUniv o.frame)

/-- R75, R145: a reserved word sets the refusal mark and changes nothing else, in every state. The model's choice that
this is a next state is log 4; that the word is refused is the spec's decision D5 (log 21). -/
def Obligations.ReservedWordOnlySetsTheMark : Prop :=
  ∀ (r : Request) (s : State), Command.wordWellFormed r.command.word = false →
    runRequest r s = .next { s with refusalMark := true }

/-! ## The step -/

/-- R8, R51, R181: a step takes the first outstanding command of the caller whose turn it is, with the transport's answer
for it, and executes it; that command and that turn are gone, and nothing else is changed before it runs. The queues and
the schedule are the model's own (log 2). -/
def Obligations.StepRunsTheDecodedCommand : Prop :=
  ∀ (s : State) (c : Nat) (cs : List Nat) (r : Request) (rs : List Request) (i : Instr),
    s.schedule = c :: cs → s.callers[c]? = some (r :: rs) → decode r.command = .ok i →
      step s = exec i { s with callers := s.callers.set c rs, schedule := cs, answer := r.answer }

/-- R170: with no command to take, the block waits: nothing changes but, where a turn was scheduled, that turn passes.
The model's choice, log 5. -/
def Obligations.StepWithoutCommandWaits : Prop :=
  ∀ s : State,
    (s.schedule = [] → step s = .next s) ∧
      ∀ (c : Nat) (cs : List Nat), s.schedule = c :: cs → (s.callers[c]? = none ∨ s.callers[c]? = some []) →
        step s = .next { s with schedule := cs }

/-- 93_implementation_defined.md, end of Part 1: no behaviour of the block is a fault or stuck: every step goes on.
`Fault` is empty (log 12), a refusal of the spec is a next state (log 4), and a step with no command waits (log 5). -/
def Obligations.NoStepEverStops : Prop :=
  ∀ s : State, ∃ t, step s = .next t

/-- R51: a step takes at most one command, the first of the caller whose turn it is, and leaves every other caller's
commands as they are.
The queues and the schedule are the model's own (log 2). -/
def Obligations.EachCallerKeepsItsOrder : Prop :=
  ∀ (s t : State) (c : Nat) (cs : List Nat), s.schedule = c :: cs → step s = .next t →
    t.schedule = cs ∧ t.outstanding c = (s.outstanding c).tail ∧ ∀ d, d ≠ c → t.outstanding d = s.outstanding d

/-- R51: every interleaving that keeps each caller's own commands in that caller's order is an execution. `order` lists
commands with the callers they are from; where it holds each caller's outstanding commands in that caller's order, the
machine with those turns executes exactly the commands of `order`, in `order`.
Rests on the spec's decision D21 (log 21); the queues and the schedule are log 2. -/
def Obligations.EveryInterleavingIsAnExecution : Prop :=
  ∀ (s : State) (order : List (Nat × Request)),
    (∀ c, (order.filter (fun p => p.1 == c)).map Prod.snd = s.outstanding c) →
      core.run order.length { s with schedule := order.map Prod.fst } =
        runAll (order.map Prod.snd) { s with callers := s.callers.map (fun _ => []), schedule := [] }

/-- R29, R181: a program presented by one caller is executed in list order, one command a step.
Rests on the spec's decision D2 (log 21). -/
def Obligations.ProgramRunsInListOrder : Prop :=
  ∀ (s : State) (rs : List Request),
    core.run rs.length (s.withProgram rs) = runAll rs { s with callers := [[]], schedule := [] }

/-! ## The packet -/

/-- R90: the frame check. -/
def Obligations.FrameCheckIsLengthAndByteRange : Prop :=
  (∀ f : Frame, validFrame f = true ↔
    f.length ≤ 65535 ∧ ∀ (i : Nat) (v : Int), f[i]? = some v → 0 ≤ v ∧ v ≤ 255) ∧ validFrame [] = true

/-- R92 against R60: the bytes written one by one are the wire format's table. -/
def Obligations.ArtdmxIsTheWireFormat : Prop :=
  ∀ (seq phys : Byte) (u : Half) (f : Frame), artdmx seq phys u f = wirePacket seq phys u.toNat f

/-- R42: after the five steps of R92 the packet buffer holds exactly the offsets 0 .. 17+L. That they are listed once each
and in rising order is the buffer's canonical form (log 17), whatever the order of the writes. -/
def Obligations.PacketBufferOffsetsAreZeroToLast : Prop :=
  ∀ (seq phys : Byte) (u : Half) (f : Frame),
    (artdmxPkt seq phys u f).map Prod.fst = List.range (18 + f.length)

/-- R61, R62, R63, R91: the 12 header bytes, in every packet. The ASCII values are the spec's general knowledge (log 8). -/
def Obligations.EveryPacketBeginsWithTheHeader : Prop :=
  ∀ (seq phys : Byte) (u : Half) (f : Frame),
    (artdmx seq phys u f).take 12 =
      [0x41#8, 0x72#8, 0x74#8, 0x2D#8, 0x4E#8, 0x65#8, 0x74#8, 0x00#8, 0x00#8, 0x50#8, 0x00#8, 0x0E#8]

/-- R64, R65: the encoder writes the two bytes it is given at offsets 12 and 13, and what SEND adds to `H` has 0 there. -/
def Obligations.SequenceAndPhysicalBytes : Prop :=
  (∀ (seq phys : Byte) (u : Half) (f : Frame),
    (artdmx seq phys u f)[12]? = some seq ∧ (artdmx seq phys u f)[13]? = some phys) ∧
    ∀ (s t : State) (f : Frame) (e : Event), exec (.send f) s = .next t → t.history = s.history ++ [e] →
      e.bytes[12]? = some 0#8 ∧ e.bytes[13]? = some 0#8

/-- R66: the universe, low byte first, and how a reader recovers it. -/
def Obligations.UniverseBytesAreLowByteFirst : Prop :=
  ∀ (seq phys : Byte) (u : Half) (f : Frame), ∃ b14 b15 : Byte,
    (artdmx seq phys u f)[14]? = some b14 ∧ (artdmx seq phys u f)[15]? = some b15 ∧
      b14.toNat = u.toNat &&& 0xFF ∧ b15.toNat = (u.toNat >>> 8) &&& 0xFF ∧
      b14 = u.extractLsb' 0 8 ∧ b15 = u.extractLsb' 8 8 ∧ u.toNat = b14.toNat + 256 * b15.toNat

/-- R67: the length, high byte first, and how a reader recovers it. -/
def Obligations.LengthBytesAreHighByteFirst : Prop :=
  ∀ (seq phys : Byte) (u : Half) (f : Frame), f.length ≤ 65535 → ∃ b16 b17 : Byte,
    (artdmx seq phys u f)[16]? = some b16 ∧ (artdmx seq phys u f)[17]? = some b17 ∧
      b16.toNat = f.length / 256 ∧ b17.toNat = f.length % 256 ∧
      b16 = (BitVec.ofNat 16 f.length).extractLsb' 8 8 ∧ b17 = (BitVec.ofNat 16 f.length).extractLsb' 0 8 ∧
      f.length = 256 * b16.toNat + b17.toNat

/-- R68: the frame's bytes, unmodified and in order, from offset 18 on; with `L = 0` there is no data section. -/
def Obligations.DataBytesAreTheFrame : Prop :=
  ∀ (seq phys : Byte) (u : Half) (f : Frame), validFrame f = true →
    (∀ i, i < f.length → ∃ b : Byte, (artdmx seq phys u f)[18 + i]? = some b ∧ f[i]? = some (b.toNat : Int)) ∧
      (f = [] → (artdmx seq phys u f).drop 18 = [])

/-- R69: the packet's length, its bounds, and the length a reader tells from the Length field. -/
def Obligations.PacketLengthAndItsBounds : Prop :=
  ∀ (seq phys : Byte) (u : Half) (f : Frame),
    (artdmx seq phys u f).length = 18 + f.length ∧
      (f.length ≤ 65535 → 18 ≤ (artdmx seq phys u f).length ∧ (artdmx seq phys u f).length ≤ 65553 ∧
        ∃ b16 b17 : Byte, (artdmx seq phys u f)[16]? = some b16 ∧ (artdmx seq phys u f)[17]? = some b17 ∧
          (artdmx seq phys u f).length = 18 + 256 * b16.toNat + b17.toNat)

/-- R80: the reference decoder recovers all four inputs of the encoder. -/
def Obligations.ReferenceDecoderRecoversTheInputs : Prop :=
  ∀ (seq phys : Byte) (u : Half) (f : Frame), validFrame f = true →
    decodePacket (artdmx seq phys u f) = some { seq := seq, phys := phys, univ := u, frame := f }

/-- R79: the reference decoder rejects exactly what is too short, has another header, or has a length its Length field
does not tell.
Rests on the spec's decision D29 (log 21). -/
def Obligations.ReferenceDecoderAcceptsExactly : Prop :=
  ∀ bytes : List Byte,
    (decodePacket bytes).isSome = true ↔
      18 ≤ bytes.length ∧
        bytes.take 12 =
          [0x41#8, 0x72#8, 0x74#8, 0x2D#8, 0x4E#8, 0x65#8, 0x74#8, 0x00#8, 0x00#8, 0x50#8, 0x00#8, 0x0E#8] ∧
        bytes.length = 18 + 256 * (bytes.getD 16 0#8).toNat + (bytes.getD 17 0#8).toNat

/-! ## ENCODE -/

/-- R93: ENCODE completes on every valid frame, in every state, with the packet as its data and nothing else changed. -/
def Obligations.EncodeReturnsThePacket : Prop :=
  ∀ (seq phys : Byte) (u : Half) (f : Frame) (s : State),
    f.length ≤ 65535 → (∀ v ∈ f, 0 ≤ v ∧ v ≤ 255) →
      exec (.encode seq phys u f) s =
        .next { s with responses := s.responses ++ [{ status := .ok, data := wirePacket seq phys u.toNat f }] }

/-- R94: what ENCODE returns depends on its operands only, and it changes nothing but the list of responses. -/
def Obligations.EncodeDependsOnItsOperandsOnly : Prop :=
  ∀ (seq phys : Byte) (u : Half) (f : Frame), ∃ r : Response, ∀ s : State,
    exec (.encode seq phys u f) s = .next { s with responses := s.responses ++ [r] }

/-- R93, R141: ENCODE raises `InvalidChannelFrame` on a frame that is too long or has a value that is no byte. -/
def Obligations.EncodeRaisesInvalidChannelFrame : Prop :=
  ∀ (seq phys : Byte) (u : Half) (f : Frame) (s : State),
    (65535 < f.length ∨ ∃ v ∈ f, v < 0 ∨ 255 < v) →
      exec (.encode seq phys u f) s =
        .next { s with responses := s.responses ++ [{ status := .invalidChannelFrame, data := [] }] }

/-! ## CREATE -/

/-- R112: CREATE completes where its universe operand, if present, is in range and the transport gives a resource: a new
sender, open, with each operand or its default, the resource held, and `H`, the mark and everything else kept.
Rests on the spec's decisions D13, D14 and D34 (log 21). -/
def Obligations.CreateOpensANewSender : Prop :=
  ∀ (host : Option HostName) (port : Option Half) (univ : Option Int) (s : State),
    (∀ v, univ = some v → 0 ≤ v ∧ v ≤ 65535) → s.answer = .ok →
      exec (.create host port univ) s =
        .next { s with
          life := .opened
          host := host.getD s.params.defaultHost
          port := port.getD s.params.defaultPort
          univ := BitVec.ofInt 16 (univ.getD 0)
          xport := .held
          responses := s.responses ++ [{ status := .ok, data := [] }] }

/-- R170, R171, R172: CREATE with no operands at power-on gives the reset state, with the response recorded, if the
transport gives a resource; if it does not, CREATE raises `TransportFailure` and the power-on state is kept (R112, R154).
The failing acquisition is the spec's decision D13, CREATE as the reset and the power-on state D14 (log 21). Which of the
two states is called reset is log 1; the answer field is log 3; the recorded responses are log 13. -/
def Obligations.CreateAtPowerOnGivesTheResetState : Prop :=
  ∀ a : Answer,
    exec (.create none none none) { State.powerOn with answer := a } =
      match a with
      | .ok => .next { State.reset with responses := [{ status := .ok, data := [] }] }
      | .fail =>
        .next { State.powerOn with answer := .fail, responses := [{ status := .transportFailure, data := [] }] }

/-- R112, R147: CREATE reports a bad universe first, whatever the transport would answer, then a failed acquisition;
either leaves the old sender as it was.
Rests on the spec's decisions D8, D12 and D13 (log 21). -/
def Obligations.CreateReportsTheFirstError : Prop :=
  ∀ (host : Option HostName) (port : Option Half) (univ : Option Int) (s : State),
    ((∃ v, univ = some v ∧ (v < 0 ∨ 65535 < v)) →
      exec (.create host port univ) s =
        .next { s with responses := s.responses ++ [{ status := .invalidUniverse, data := [] }] }) ∧
      ((∀ v, univ = some v → 0 ≤ v ∧ v ≤ 65535) → s.answer = .fail →
        exec (.create host port univ) s =
          .next { s with responses := s.responses ++ [{ status := .transportFailure, data := [] }] })

/-! ## CONFIGURE, SET_UNIVERSE, CLOSE -/

/-- R113: CONFIGURE completes on an open sender: each present operand is written, an omitted one leaves its register.
Rests on the spec's decisions D10 and D11 (log 21). -/
def Obligations.ConfigureWritesThePresentOperands : Prop :=
  ∀ (host : Option HostName) (port : Option Half) (univ : Option Int) (s : State),
    s.life = .opened → (∀ v, univ = some v → 0 ≤ v ∧ v ≤ 65535) →
      exec (.configure host port univ) s =
        .next { s with
          host := host.getD s.host
          port := port.getD s.port
          univ := (univ.map (fun v => BitVec.ofInt 16 v)).getD s.univ
          responses := s.responses ++ [{ status := .ok, data := [] }] }

/-- R114: SET_UNIVERSE completes on an open sender and the register then holds the operand's value. -/
def Obligations.SetUniverseWritesTheRegister : Prop :=
  ∀ (v : Int) (s : State), s.life = .opened → 0 ≤ v → v ≤ 65535 →
    ∃ u : Half, (u.toNat : Int) = v ∧
      exec (.setUniverse v) s =
        .next { s with univ := u, responses := s.responses ++ [{ status := .ok, data := [] }] }

/-- R113, R114, R142: on an open sender a universe outside 0..65535 raises `InvalidUniverse` and no register is written,
not even a present host or port.
For CONFIGURE it rests on the spec's decisions D9 and D11 (log 21). -/
def Obligations.BadUniverseWritesNoRegister : Prop :=
  ∀ (host : Option HostName) (port : Option Half) (v : Int) (s : State),
    s.life = .opened → (v < 0 ∨ 65535 < v) →
      exec (.configure host port (some v)) s =
          .next { s with responses := s.responses ++ [{ status := .invalidUniverse, data := [] }] } ∧
        exec (.setUniverse v) s =
          .next { s with responses := s.responses ++ [{ status := .invalidUniverse, data := [] }] }

/-- R116: CLOSE completes on an open sender: the resource is released, the sender closed, the registers keep their
values. -/
def Obligations.CloseReleasesTheResource : Prop :=
  ∀ s : State, s.life = .opened →
    exec .close s =
      .next { s with
        life := .closed
        xport := .released
        responses := s.responses ++ [{ status := .ok, data := [] }] }

/-! ## SEND -/

/-- R115: SEND completes on an open sender with a valid frame where the transport attempts the send: one event, the
packet of the registers at this step with Sequence and Physical 0, is appended to `H`; no register is written. -/
def Obligations.SendDispatchesOnePacket : Prop :=
  ∀ (f : Frame) (s : State), s.life = .opened → s.xport = .held →
    f.length ≤ 65535 → (∀ v ∈ f, 0 ≤ v ∧ v ≤ 255) → s.answer = .ok →
      exec (.send f) s =
        .next { s with
          history := s.history ++ [{ host := s.host, port := s.port, bytes := wirePacket 0#8 0#8 s.univ.toNat f }]
          responses := s.responses ++ [{ status := .ok, data := [] }] }

/-- R115, R147: SEND reports a closed sender first, whatever the frame; then a bad frame, whatever the transport would
answer; then a submission that could not be attempted. Each appends nothing to `H`.
The order of the checks is the spec's decision D8 (log 21). -/
def Obligations.SendReportsTheFirstError : Prop :=
  ∀ (f : Frame) (s : State),
    (s.life = .closed →
      exec (.send f) s = .next { s with responses := s.responses ++ [{ status := .senderClosed, data := [] }] }) ∧
      (s.life = .opened → (65535 < f.length ∨ ∃ v ∈ f, v < 0 ∨ 255 < v) →
        exec (.send f) s =
          .next { s with responses := s.responses ++ [{ status := .invalidChannelFrame, data := [] }] }) ∧
      (s.life = .opened → f.length ≤ 65535 → (∀ v ∈ f, 0 ≤ v ∧ v ≤ 255) → s.answer = .fail →
        exec (.send f) s =
          .next { s with responses := s.responses ++ [{ status := .transportFailure, data := [] }] })

/-- R179: a universe written by SET_UNIVERSE or by CONFIGURE is in the packet of the very next SEND, and changes no
packet already in `H`. That a CONFIGURE with the universe alone keeps the host and port of that next event is R113 by the
spec's decision D10 (log 21). -/
def Obligations.UniverseWriteReachesTheNextSendOnly : Prop :=
  ∀ (v : Int) (f : Frame) (s : State), s.life = .opened → s.xport = .held → s.answer = .ok →
    0 ≤ v → v ≤ 65535 → f.length ≤ 65535 → (∀ w ∈ f, 0 ≤ w ∧ w ≤ 255) →
      ∀ i ∈ [Instr.setUniverse v, .configure none none (some v)],
        ∃ t t' : State, exec i s = .next t ∧ t.history = s.history ∧ exec (.send f) t = .next t' ∧
          t'.history =
            s.history ++ [{ host := s.host, port := s.port, bytes := wirePacket 0#8 0#8 v.toNat f }]

/-- R117: every packet SEND adds to `H`, over any run from any state, has Sequence byte 0 and Physical byte 0, and the
sequence register is 0 before and after. -/
def Obligations.SequenceByteIsNeverIncremented : Prop :=
  ∀ (n : Nat) (s t : State), core.run n s = (.next t : Host.Outcome State Fault Refusal) →
    s.seq.value = 0#8 ∧ t.seq.value = 0#8 ∧ t.seq = s.seq ∧
      ∀ e ∈ t.history.drop s.history.length, e.bytes[12]? = some 0#8 ∧ e.bytes[13]? = some 0#8

/-- R48, R115: two equal SENDs make two equal events. -/
def Obligations.TwoSendsMakeTwoEvents : Prop :=
  ∀ (f : Frame) (s : State), s.life = .opened → s.xport = .held → validFrame f = true → s.answer = .ok →
    ∃ (t t' : State) (e : Event), exec (.send f) s = .next t ∧ exec (.send f) t = .next t' ∧
      t'.history = s.history ++ [e, e]

/-! ## The lifecycle gate and errors -/

/-- R111, R143, R147: on a closed sender CONFIGURE, SET_UNIVERSE, SEND and CLOSE raise `SenderClosed`, whatever their
operands, and change nothing else.
But for SEND it rests on the spec's decisions D16 and D17 (log 21). -/
def Obligations.ClosedSenderRaisesSenderClosed : Prop :=
  ∀ (host : Option HostName) (port : Option Half) (univ : Option Int) (v : Int) (f : Frame) (s : State),
    s.life = .closed → ∀ i ∈ [Instr.configure host port univ, .setUniverse v, .send f, .close],
      exec i s = .next { s with responses := s.responses ++ [{ status := .senderClosed, data := [] }] }

/-- R111, R145: before any CREATE the same four commands are refused: the refusal mark is set, there is no response, and
nothing else changes. The model's choice that this is a next state is log 4.
That they are refused is the spec's decision D15 (log 21). -/
def Obligations.AbsentSenderRefuses : Prop :=
  ∀ (host : Option HostName) (port : Option Half) (univ : Option Int) (v : Int) (f : Frame) (s : State),
    s.life = .absent → ∀ i ∈ [Instr.configure host port univ, .setUniverse v, .send f, .close],
      exec i s = .next { s with refusalMark := true }

/-- R116, R143: after a CLOSE, SEND fails with `SenderClosed` and makes no transmission. -/
def Obligations.SendAfterCloseIsSenderClosed : Prop :=
  ∀ (f : Frame) (s : State), s.life = .opened →
    ∃ t t' : State, exec .close s = .next t ∧ exec (.send f) t = .next t' ∧ t'.history = s.history ∧
      t'.responses =
        s.responses ++ [{ status := .ok, data := [] }, { status := .senderClosed, data := [] }]

/-- R146: a command that ends with an error status returns no data and leaves everything else as it was.
For the registers it rests on the spec's decision D9 (log 21). -/
def Obligations.ErrorsArePrecise : Prop :=
  ∀ (i : Instr) (s t : State) (r : Response), exec i s = .next t → t.responses = s.responses ++ [r] →
    r.status ≠ .ok → r.data = [] ∧ t = { s with responses := s.responses ++ [r] }

/-- R76, R145: a command gives exactly one response, with data only from an ENCODE that is OK; or it is refused, which
happens only before any CREATE, to no CREATE and no ENCODE, and then only the refusal mark is set.
The refusal rests on the spec's decision D15 (log 21) and on log 4; the list of responses is log 13. -/
def Obligations.OneResponseOrARefusal : Prop :=
  ∀ (i : Instr) (s t : State), exec i s = .next t →
    (t.refusalMark = s.refusalMark ∧ ∃ r : Response, t.responses = s.responses ++ [r] ∧
      (r.data ≠ [] → r.status = .ok ∧ ∃ seq phys u f, i = .encode seq phys u f)) ∨
      (s.life = .absent ∧ (∀ host port univ, i ≠ .create host port univ) ∧
        (∀ seq phys u f, i ≠ .encode seq phys u f) ∧ t = { s with refusalMark := true })

/-- R140: which command returns which status.
For CREATE and CONFIGURE it rests on the spec's decisions D11 to D13 (log 21). -/
def Obligations.StatusesOfEachCommand : Prop :=
  ∀ (i : Instr) (s t : State) (r : Response), exec i s = .next t → t.responses = s.responses ++ [r] →
    match i with
    | .create _ _ _ => r.status = .ok ∨ r.status = .invalidUniverse ∨ r.status = .transportFailure
    | .configure _ _ _ => r.status = .ok ∨ r.status = .invalidUniverse ∨ r.status = .senderClosed
    | .setUniverse _ => r.status = .ok ∨ r.status = .invalidUniverse ∨ r.status = .senderClosed
    | .send _ =>
      r.status = .ok ∨ r.status = .invalidChannelFrame ∨ r.status = .senderClosed ∨ r.status = .transportFailure
    | .close => r.status = .ok ∨ r.status = .senderClosed
    | .encode _ _ _ _ => r.status = .ok ∨ r.status = .invalidChannelFrame

/-! ## Frames and rules of the whole machine -/

/-- R33: what each command leaves unchanged, whatever it answers. Every command keeps the history and the responses so
far (R28) and a refusal mark that is set, and sets the mark only where there is no sender (R111, R145; logs 4 and 13). The
inputs of a step (parameters, answer, queues, schedule) are no state of the block (R32); that they are fields that no
command changes is the model's own (logs 2, 3 and 7). That CREATE keeps `H` is the spec's decision D34, that `seq` and
`phys` can hold nothing but 0 is log 11. -/
def Obligations.FrameOfEveryCommand : Prop :=
  ∀ (i : Instr) (s t : State), exec i s = .next t →
    t.params = s.params ∧ t.answer = s.answer ∧ t.callers = s.callers ∧ t.schedule = s.schedule ∧
      t.seq = s.seq ∧ t.phys = s.phys ∧ s.history <+: t.history ∧ s.responses <+: t.responses ∧
      (s.life ≠ .absent → t.refusalMark = s.refusalMark) ∧ (s.refusalMark = true → t.refusalMark = true) ∧
      match i with
      | .create _ _ _ => t.history = s.history ∧ t.refusalMark = s.refusalMark
      | .configure host port univ =>
        t.life = s.life ∧ t.xport = s.xport ∧ t.history = s.history ∧ (host = none → t.host = s.host) ∧
          (port = none → t.port = s.port) ∧ (univ = none → t.univ = s.univ)
      | .setUniverse _ =>
        t.life = s.life ∧ t.xport = s.xport ∧ t.history = s.history ∧ t.host = s.host ∧ t.port = s.port
      | .send _ =>
        t.life = s.life ∧ t.xport = s.xport ∧ t.host = s.host ∧ t.port = s.port ∧ t.univ = s.univ ∧
          (t.history = s.history ∨ ∃ e, t.history = s.history ++ [e])
      | .close => t.host = s.host ∧ t.port = s.port ∧ t.univ = s.univ ∧ t.history = s.history
      | .encode _ _ _ _ =>
        t.life = s.life ∧ t.xport = s.xport ∧ t.history = s.history ∧ t.host = s.host ∧ t.port = s.port ∧
          t.univ = s.univ ∧ t.refusalMark = s.refusalMark

/-- R21, R152, R158: `life` becomes `OPEN` only by CREATE and `CLOSED` only by a CLOSE of an open sender; no command makes
it `ABSENT`, and `CLOSED` is left only by CREATE.
Rests on the spec's decision D14 (log 21). -/
def Obligations.LifecycleTransitions : Prop :=
  ∀ (i : Instr) (s t : State), exec i s = .next t → t.life ≠ s.life →
    (t.life = .opened ∧ ∃ host port univ, i = .create host port univ) ∨
      (s.life = .opened ∧ t.life = .closed ∧ i = .close)

/-- R28, R52, R145: over any run the history and the responses only grow at the end, so no packet already in `H` ever
changes, and the refusal mark is never cleared.
That CREATE keeps `H` is the spec's decision D34 (log 21), that the list of responses is state log 13. -/
def Obligations.HistoryOnlyGrowsAndTheMarkStays : Prop :=
  ∀ (n : Nat) (s t : State), core.run n s = (.next t : Host.Outcome State Fault Refusal) →
    s.history <+: t.history ∧ s.responses <+: t.responses ∧ (s.refusalMark = true → t.refusalMark = true)

/-- R76, R145, R181: in a run of a program that ends with the refusal mark clear, every command was answered: the list of
responses has one more entry for each command, and the mark was clear all along.
That a refusal is a next state is log 4, that the list of responses is state log 13. -/
def Obligations.SafeRunAnswersEveryCommand : Prop :=
  ∀ (rs : List Request) (s t : State), runAll rs s = .next t → t.Safe →
    s.Safe ∧ t.responses.length = s.responses.length + rs.length

/-- R174, R27, R117, R76: every step keeps the invariant: the resource is held exactly while the sender is open, every
packet in `H` has the header, a true Length field and Sequence and Physical 0, and every response is well formed.
That the list of responses is state is log 13. -/
def Obligations.EveryStepKeepsTheInvariant : Prop :=
  ∀ s t : State, s.Inv → step s = .next t → t.Inv

/-- R171, R172, R174: the invariant holds at reset and at power-on. -/
def Obligations.InvariantAtResetAndPowerOn : Prop :=
  State.reset.Inv ∧ State.powerOn.Inv

/-- R172: power-on, as far as the spec gives it values.
Rests on the spec's decision D14 (log 21). -/
def Obligations.PowerOnStateIsAbsent : Prop :=
  State.powerOn.life = .absent ∧ State.powerOn.seq.value = 0#8 ∧ State.powerOn.phys.value = 0#8 ∧
    State.powerOn.xport = .released ∧ State.powerOn.history = [] ∧ State.powerOn.refusalMark = false

/-- R171: the reset state. The two default values are the spec's general knowledge (log 7).
Rests on the spec's decisions D14, D20 and D34 (log 21); which state is reset is log 1. -/
def Obligations.ResetStateIsOpenWithDefaults : Prop :=
  State.reset.life = .opened ∧ State.reset.host = State.reset.params.defaultHost ∧
    State.reset.port = State.reset.params.defaultPort ∧
    State.reset.params = { defaultHost := "255.255.255.255", defaultPort := 6454#16 } ∧ State.reset.univ = 0#16 ∧
    State.reset.seq.value = 0#8 ∧ State.reset.phys.value = 0#8 ∧ State.reset.xport = .held ∧
    State.reset.xport.broadcastEnabled = true ∧ State.reset.history = [] ∧ State.reset.refusalMark = false

/-! ## Callers and instances -/

/-- R175, U2: with one caller's SET_UNIVERSE or CONFIGURE (any of its operands present or omitted) and another's SEND
outstanding together, the order of the turns decides whether the event has the old host, port and universe or the new ones
`host'`, `port'` and `univ'`; both orders are executions, and both end with the new values in the registers. The orders
are the spec's decision D21, an omitted operand of CONFIGURE its decision D10, its universe check D11 (log 21); the queues
and the schedule are log 2. -/
def Obligations.ConfigurationRaceHasBothOutcomes : Prop :=
  ∀ (i : Instr) (host' : HostName) (port' : Half) (univ' : Half) (f : Frame) (a : Answer) (s : State),
    s.life = .opened → s.xport = .held → f.length ≤ 65535 → (∀ w ∈ f, 0 ≤ w ∧ w ≤ 255) →
    ((i = .setUniverse (univ'.toNat : Int) ∧ host' = s.host ∧ port' = s.port) ∨
      (∃ (host : Option HostName) (port : Option Half) (univ : Option Int), i = .configure host port univ ∧
        (∀ v, univ = some v → 0 ≤ v ∧ v ≤ 65535) ∧ host' = host.getD s.host ∧ port' = port.getD s.port ∧
        (univ'.toNat : Int) = univ.getD (s.univ.toNat : Int))) →
    s.callers = [[{ command := encode i, answer := a }], [{ command := encode (.send f), answer := .ok }]] →
      (∃ t : State, core.run 2 { s with schedule := [0, 1] } = (.next t : Host.Outcome State Fault Refusal) ∧
        t.host = host' ∧ t.port = port' ∧ t.univ = univ' ∧
        t.history = s.history ++ [{ host := host', port := port', bytes := wirePacket 0#8 0#8 univ'.toNat f }]) ∧
        ∃ t : State, core.run 2 { s with schedule := [1, 0] } = (.next t : Host.Outcome State Fault Refusal) ∧
          t.host = host' ∧ t.port = port' ∧ t.univ = univ' ∧
          t.history = s.history ++ [{ host := s.host, port := s.port, bytes := wirePacket 0#8 0#8 s.univ.toNat f }]

/-- R178, U3: with a SEND and another caller's CLOSE outstanding together, the SEND comes first and dispatches, or comes
after and raises `SenderClosed` with no event. -/
def Obligations.CloseRaceHasBothOutcomes : Prop :=
  ∀ (f : Frame) (a : Answer) (s : State), s.life = .opened → s.xport = .held →
    f.length ≤ 65535 → (∀ w ∈ f, 0 ≤ w ∧ w ≤ 255) →
    s.callers = [[{ command := encode (.send f), answer := .ok }], [{ command := encode .close, answer := a }]] →
      (∃ t : State, core.run 2 { s with schedule := [0, 1] } = (.next t : Host.Outcome State Fault Refusal) ∧
        t.life = .closed ∧
        t.history = s.history ++ [{ host := s.host, port := s.port, bytes := wirePacket 0#8 0#8 s.univ.toNat f }] ∧
        t.responses = s.responses ++ [{ status := .ok, data := [] }, { status := .ok, data := [] }]) ∧
        ∃ t : State, core.run 2 { s with schedule := [1, 0] } = (.next t : Host.Outcome State Fault Refusal) ∧
          t.life = .closed ∧ t.history = s.history ∧
          t.responses = s.responses ++ [{ status := .ok, data := [] }, { status := .senderClosed, data := [] }]

/-- R58, R156: instances share nothing: a step of one leaves every other as it was, and steps of two of them commute.
Rests on the spec's decision D32 (log 21); a platform as a list of machines is log 15. -/
def Obligations.InstancesShareNothing : Prop :=
  ∀ (j k : Nat) (p p1 p2 : Platform), j ≠ k → stepSender j p = .next p1 → stepSender k p1 = .next p2 →
    p1.senders[k]? = p.senders[k]? ∧ ∃ q, stepSender k p = .next q ∧ stepSender j q = .next p2
end

