-- ==== Sys2Proof/Laws/Decode.lean ====
section
/-! SUPPORT. The fields of a word made of its fields (30_encoding.md R71), and the optional operand lanes (R74). -/

namespace Sys2Proof

@[simp] theorem opField_makeWord (u p h : Bool) (op : BitVec 3) : opField (makeWord u p h op) = op := by
  revert u p h op; decide

@[simp] theorem hostBit_makeWord (u p h : Bool) (op : BitVec 3) : hostBit (makeWord u p h op) = h := by
  revert u p h op; decide

@[simp] theorem portBit_makeWord (u p h : Bool) (op : BitVec 3) : portBit (makeWord u p h op) = p := by
  revert u p h op; decide

@[simp] theorem univBit_makeWord (u p h : Bool) (op : BitVec 3) : univBit (makeWord u p h op) = u := by
  revert u p h op; decide

@[simp] theorem reservedField_makeWord (u p h : Bool) (op : BitVec 3) : reservedField (makeWord u p h op) = 0#2 := by
  revert u p h op; decide

/-- A lane read through its presence bit gives the operand back. -/
theorem optionalLane_getD {α : Type} (o : Option α) (d : α) : optionalLane o.isSome (o.getD d) = o := by
  cases o <;> rfl

end Sys2Proof
end

