-- ==== Sys2Proof/Laws/State.lean ====
section
/-! SUPPORT. What each update of the state does to each field: one lemma per field per update, all true by `rfl`. -/

namespace Sys2Proof.Machine

@[simp] theorem State.setLife_life (s : State) (v : Life) : (s.setLife v).life = v := rfl
@[simp] theorem State.setLife_host (s : State) (v : Life) : (s.setLife v).host = s.host := rfl
@[simp] theorem State.setLife_port (s : State) (v : Life) : (s.setLife v).port = s.port := rfl
@[simp] theorem State.setLife_univ (s : State) (v : Life) : (s.setLife v).univ = s.univ := rfl
@[simp] theorem State.setLife_seq (s : State) (v : Life) : (s.setLife v).seq = s.seq := rfl
@[simp] theorem State.setLife_phys (s : State) (v : Life) : (s.setLife v).phys = s.phys := rfl
@[simp] theorem State.setLife_xport (s : State) (v : Life) : (s.setLife v).xport = s.xport := rfl
@[simp] theorem State.setLife_history (s : State) (v : Life) : (s.setLife v).history = s.history := rfl
@[simp] theorem State.setLife_refusalMark (s : State) (v : Life) : (s.setLife v).refusalMark = s.refusalMark := rfl
@[simp] theorem State.setLife_responses (s : State) (v : Life) : (s.setLife v).responses = s.responses := rfl
@[simp] theorem State.setLife_params (s : State) (v : Life) : (s.setLife v).params = s.params := rfl
@[simp] theorem State.setLife_answer (s : State) (v : Life) : (s.setLife v).answer = s.answer := rfl
@[simp] theorem State.setLife_callers (s : State) (v : Life) : (s.setLife v).callers = s.callers := rfl
@[simp] theorem State.setLife_schedule (s : State) (v : Life) : (s.setLife v).schedule = s.schedule := rfl

@[simp] theorem State.setHost_life (s : State) (v : HostName) : (s.setHost v).life = s.life := rfl
@[simp] theorem State.setHost_host (s : State) (v : HostName) : (s.setHost v).host = v := rfl
@[simp] theorem State.setHost_port (s : State) (v : HostName) : (s.setHost v).port = s.port := rfl
@[simp] theorem State.setHost_univ (s : State) (v : HostName) : (s.setHost v).univ = s.univ := rfl
@[simp] theorem State.setHost_seq (s : State) (v : HostName) : (s.setHost v).seq = s.seq := rfl
@[simp] theorem State.setHost_phys (s : State) (v : HostName) : (s.setHost v).phys = s.phys := rfl
@[simp] theorem State.setHost_xport (s : State) (v : HostName) : (s.setHost v).xport = s.xport := rfl
@[simp] theorem State.setHost_history (s : State) (v : HostName) : (s.setHost v).history = s.history := rfl
@[simp] theorem State.setHost_refusalMark (s : State) (v : HostName) : (s.setHost v).refusalMark = s.refusalMark := rfl
@[simp] theorem State.setHost_responses (s : State) (v : HostName) : (s.setHost v).responses = s.responses := rfl
@[simp] theorem State.setHost_params (s : State) (v : HostName) : (s.setHost v).params = s.params := rfl
@[simp] theorem State.setHost_answer (s : State) (v : HostName) : (s.setHost v).answer = s.answer := rfl
@[simp] theorem State.setHost_callers (s : State) (v : HostName) : (s.setHost v).callers = s.callers := rfl
@[simp] theorem State.setHost_schedule (s : State) (v : HostName) : (s.setHost v).schedule = s.schedule := rfl

@[simp] theorem State.setPort_life (s : State) (v : Half) : (s.setPort v).life = s.life := rfl
@[simp] theorem State.setPort_host (s : State) (v : Half) : (s.setPort v).host = s.host := rfl
@[simp] theorem State.setPort_port (s : State) (v : Half) : (s.setPort v).port = v := rfl
@[simp] theorem State.setPort_univ (s : State) (v : Half) : (s.setPort v).univ = s.univ := rfl
@[simp] theorem State.setPort_seq (s : State) (v : Half) : (s.setPort v).seq = s.seq := rfl
@[simp] theorem State.setPort_phys (s : State) (v : Half) : (s.setPort v).phys = s.phys := rfl
@[simp] theorem State.setPort_xport (s : State) (v : Half) : (s.setPort v).xport = s.xport := rfl
@[simp] theorem State.setPort_history (s : State) (v : Half) : (s.setPort v).history = s.history := rfl
@[simp] theorem State.setPort_refusalMark (s : State) (v : Half) : (s.setPort v).refusalMark = s.refusalMark := rfl
@[simp] theorem State.setPort_responses (s : State) (v : Half) : (s.setPort v).responses = s.responses := rfl
@[simp] theorem State.setPort_params (s : State) (v : Half) : (s.setPort v).params = s.params := rfl
@[simp] theorem State.setPort_answer (s : State) (v : Half) : (s.setPort v).answer = s.answer := rfl
@[simp] theorem State.setPort_callers (s : State) (v : Half) : (s.setPort v).callers = s.callers := rfl
@[simp] theorem State.setPort_schedule (s : State) (v : Half) : (s.setPort v).schedule = s.schedule := rfl

@[simp] theorem State.setUniv_life (s : State) (v : Half) : (s.setUniv v).life = s.life := rfl
@[simp] theorem State.setUniv_host (s : State) (v : Half) : (s.setUniv v).host = s.host := rfl
@[simp] theorem State.setUniv_port (s : State) (v : Half) : (s.setUniv v).port = s.port := rfl
@[simp] theorem State.setUniv_univ (s : State) (v : Half) : (s.setUniv v).univ = v := rfl
@[simp] theorem State.setUniv_seq (s : State) (v : Half) : (s.setUniv v).seq = s.seq := rfl
@[simp] theorem State.setUniv_phys (s : State) (v : Half) : (s.setUniv v).phys = s.phys := rfl
@[simp] theorem State.setUniv_xport (s : State) (v : Half) : (s.setUniv v).xport = s.xport := rfl
@[simp] theorem State.setUniv_history (s : State) (v : Half) : (s.setUniv v).history = s.history := rfl
@[simp] theorem State.setUniv_refusalMark (s : State) (v : Half) : (s.setUniv v).refusalMark = s.refusalMark := rfl
@[simp] theorem State.setUniv_responses (s : State) (v : Half) : (s.setUniv v).responses = s.responses := rfl
@[simp] theorem State.setUniv_params (s : State) (v : Half) : (s.setUniv v).params = s.params := rfl
@[simp] theorem State.setUniv_answer (s : State) (v : Half) : (s.setUniv v).answer = s.answer := rfl
@[simp] theorem State.setUniv_callers (s : State) (v : Half) : (s.setUniv v).callers = s.callers := rfl
@[simp] theorem State.setUniv_schedule (s : State) (v : Half) : (s.setUniv v).schedule = s.schedule := rfl

@[simp] theorem State.setXport_life (s : State) (v : Xport) : (s.setXport v).life = s.life := rfl
@[simp] theorem State.setXport_host (s : State) (v : Xport) : (s.setXport v).host = s.host := rfl
@[simp] theorem State.setXport_port (s : State) (v : Xport) : (s.setXport v).port = s.port := rfl
@[simp] theorem State.setXport_univ (s : State) (v : Xport) : (s.setXport v).univ = s.univ := rfl
@[simp] theorem State.setXport_seq (s : State) (v : Xport) : (s.setXport v).seq = s.seq := rfl
@[simp] theorem State.setXport_phys (s : State) (v : Xport) : (s.setXport v).phys = s.phys := rfl
@[simp] theorem State.setXport_xport (s : State) (v : Xport) : (s.setXport v).xport = v := rfl
@[simp] theorem State.setXport_history (s : State) (v : Xport) : (s.setXport v).history = s.history := rfl
@[simp] theorem State.setXport_refusalMark (s : State) (v : Xport) : (s.setXport v).refusalMark = s.refusalMark := rfl
@[simp] theorem State.setXport_responses (s : State) (v : Xport) : (s.setXport v).responses = s.responses := rfl
@[simp] theorem State.setXport_params (s : State) (v : Xport) : (s.setXport v).params = s.params := rfl
@[simp] theorem State.setXport_answer (s : State) (v : Xport) : (s.setXport v).answer = s.answer := rfl
@[simp] theorem State.setXport_callers (s : State) (v : Xport) : (s.setXport v).callers = s.callers := rfl
@[simp] theorem State.setXport_schedule (s : State) (v : Xport) : (s.setXport v).schedule = s.schedule := rfl

@[simp] theorem State.appendEvent_life (s : State) (e : Event) : (s.appendEvent e).life = s.life := rfl
@[simp] theorem State.appendEvent_host (s : State) (e : Event) : (s.appendEvent e).host = s.host := rfl
@[simp] theorem State.appendEvent_port (s : State) (e : Event) : (s.appendEvent e).port = s.port := rfl
@[simp] theorem State.appendEvent_univ (s : State) (e : Event) : (s.appendEvent e).univ = s.univ := rfl
@[simp] theorem State.appendEvent_seq (s : State) (e : Event) : (s.appendEvent e).seq = s.seq := rfl
@[simp] theorem State.appendEvent_phys (s : State) (e : Event) : (s.appendEvent e).phys = s.phys := rfl
@[simp] theorem State.appendEvent_xport (s : State) (e : Event) : (s.appendEvent e).xport = s.xport := rfl
@[simp] theorem State.appendEvent_history (s : State) (e : Event) : (s.appendEvent e).history = s.history ++ [e] := rfl
@[simp] theorem State.appendEvent_refusalMark (s : State) (e : Event) : (s.appendEvent e).refusalMark = s.refusalMark := rfl
@[simp] theorem State.appendEvent_responses (s : State) (e : Event) : (s.appendEvent e).responses = s.responses := rfl
@[simp] theorem State.appendEvent_params (s : State) (e : Event) : (s.appendEvent e).params = s.params := rfl
@[simp] theorem State.appendEvent_answer (s : State) (e : Event) : (s.appendEvent e).answer = s.answer := rfl
@[simp] theorem State.appendEvent_callers (s : State) (e : Event) : (s.appendEvent e).callers = s.callers := rfl
@[simp] theorem State.appendEvent_schedule (s : State) (e : Event) : (s.appendEvent e).schedule = s.schedule := rfl

@[simp] theorem State.respond_life (s : State) (r : Response) : (s.respond r).life = s.life := rfl
@[simp] theorem State.respond_host (s : State) (r : Response) : (s.respond r).host = s.host := rfl
@[simp] theorem State.respond_port (s : State) (r : Response) : (s.respond r).port = s.port := rfl
@[simp] theorem State.respond_univ (s : State) (r : Response) : (s.respond r).univ = s.univ := rfl
@[simp] theorem State.respond_seq (s : State) (r : Response) : (s.respond r).seq = s.seq := rfl
@[simp] theorem State.respond_phys (s : State) (r : Response) : (s.respond r).phys = s.phys := rfl
@[simp] theorem State.respond_xport (s : State) (r : Response) : (s.respond r).xport = s.xport := rfl
@[simp] theorem State.respond_history (s : State) (r : Response) : (s.respond r).history = s.history := rfl
@[simp] theorem State.respond_refusalMark (s : State) (r : Response) : (s.respond r).refusalMark = s.refusalMark := rfl
@[simp] theorem State.respond_responses (s : State) (r : Response) : (s.respond r).responses = s.responses ++ [r] := rfl
@[simp] theorem State.respond_params (s : State) (r : Response) : (s.respond r).params = s.params := rfl
@[simp] theorem State.respond_answer (s : State) (r : Response) : (s.respond r).answer = s.answer := rfl
@[simp] theorem State.respond_callers (s : State) (r : Response) : (s.respond r).callers = s.callers := rfl
@[simp] theorem State.respond_schedule (s : State) (r : Response) : (s.respond r).schedule = s.schedule := rfl

@[simp] theorem State.markRefused_life (s : State) : (s.markRefused).life = s.life := rfl
@[simp] theorem State.markRefused_host (s : State) : (s.markRefused).host = s.host := rfl
@[simp] theorem State.markRefused_port (s : State) : (s.markRefused).port = s.port := rfl
@[simp] theorem State.markRefused_univ (s : State) : (s.markRefused).univ = s.univ := rfl
@[simp] theorem State.markRefused_seq (s : State) : (s.markRefused).seq = s.seq := rfl
@[simp] theorem State.markRefused_phys (s : State) : (s.markRefused).phys = s.phys := rfl
@[simp] theorem State.markRefused_xport (s : State) : (s.markRefused).xport = s.xport := rfl
@[simp] theorem State.markRefused_history (s : State) : (s.markRefused).history = s.history := rfl
@[simp] theorem State.markRefused_refusalMark (s : State) : (s.markRefused).refusalMark = true := rfl
@[simp] theorem State.markRefused_responses (s : State) : (s.markRefused).responses = s.responses := rfl
@[simp] theorem State.markRefused_params (s : State) : (s.markRefused).params = s.params := rfl
@[simp] theorem State.markRefused_answer (s : State) : (s.markRefused).answer = s.answer := rfl
@[simp] theorem State.markRefused_callers (s : State) : (s.markRefused).callers = s.callers := rfl
@[simp] theorem State.markRefused_schedule (s : State) : (s.markRefused).schedule = s.schedule := rfl

@[simp] theorem State.setAnswer_life (s : State) (a : Answer) : (s.setAnswer a).life = s.life := rfl
@[simp] theorem State.setAnswer_host (s : State) (a : Answer) : (s.setAnswer a).host = s.host := rfl
@[simp] theorem State.setAnswer_port (s : State) (a : Answer) : (s.setAnswer a).port = s.port := rfl
@[simp] theorem State.setAnswer_univ (s : State) (a : Answer) : (s.setAnswer a).univ = s.univ := rfl
@[simp] theorem State.setAnswer_seq (s : State) (a : Answer) : (s.setAnswer a).seq = s.seq := rfl
@[simp] theorem State.setAnswer_phys (s : State) (a : Answer) : (s.setAnswer a).phys = s.phys := rfl
@[simp] theorem State.setAnswer_xport (s : State) (a : Answer) : (s.setAnswer a).xport = s.xport := rfl
@[simp] theorem State.setAnswer_history (s : State) (a : Answer) : (s.setAnswer a).history = s.history := rfl
@[simp] theorem State.setAnswer_refusalMark (s : State) (a : Answer) : (s.setAnswer a).refusalMark = s.refusalMark := rfl
@[simp] theorem State.setAnswer_responses (s : State) (a : Answer) : (s.setAnswer a).responses = s.responses := rfl
@[simp] theorem State.setAnswer_params (s : State) (a : Answer) : (s.setAnswer a).params = s.params := rfl
@[simp] theorem State.setAnswer_answer (s : State) (a : Answer) : (s.setAnswer a).answer = a := rfl
@[simp] theorem State.setAnswer_callers (s : State) (a : Answer) : (s.setAnswer a).callers = s.callers := rfl
@[simp] theorem State.setAnswer_schedule (s : State) (a : Answer) : (s.setAnswer a).schedule = s.schedule := rfl

end Sys2Proof.Machine
end

