-- ==== Sys2Proof/Laws/Ops.lean ====
section
/-! SUPPORT. One lemma per shared operation that says everything it can do: the turn, the gate, the transport, the four
composite updates of the registers, and what each meaning can answer. -/

namespace Sys2Proof.Machine

/-- A turn changes the outstanding commands and the schedule only. -/
theorem takeTurn_eq (s : State) :
    takeTurn s = { s with callers := (takeTurn s).callers, schedule := (takeTurn s).schedule } := by
  unfold takeTurn
  split <;> rfl

@[simp] theorem takeTurn_life (s : State) : (takeTurn s).life = s.life := by rw [takeTurn_eq]
@[simp] theorem takeTurn_host (s : State) : (takeTurn s).host = s.host := by rw [takeTurn_eq]
@[simp] theorem takeTurn_port (s : State) : (takeTurn s).port = s.port := by rw [takeTurn_eq]
@[simp] theorem takeTurn_univ (s : State) : (takeTurn s).univ = s.univ := by rw [takeTurn_eq]
@[simp] theorem takeTurn_seq (s : State) : (takeTurn s).seq = s.seq := by rw [takeTurn_eq]
@[simp] theorem takeTurn_phys (s : State) : (takeTurn s).phys = s.phys := by rw [takeTurn_eq]
@[simp] theorem takeTurn_xport (s : State) : (takeTurn s).xport = s.xport := by rw [takeTurn_eq]
@[simp] theorem takeTurn_history (s : State) : (takeTurn s).history = s.history := by rw [takeTurn_eq]
@[simp] theorem takeTurn_refusalMark (s : State) : (takeTurn s).refusalMark = s.refusalMark := by rw [takeTurn_eq]
@[simp] theorem takeTurn_responses (s : State) : (takeTurn s).responses = s.responses := by rw [takeTurn_eq]
@[simp] theorem takeTurn_params (s : State) : (takeTurn s).params = s.params := by rw [takeTurn_eq]
@[simp] theorem takeTurn_answer (s : State) : (takeTurn s).answer = s.answer := by rw [takeTurn_eq]

/-- A turn of caller `c` with `r` outstanding first takes `r` and leaves the rest of `c`'s commands. -/
theorem takeTurn_cons {s : State} {c : Nat} {cs : List Nat} (h : s.schedule = c :: cs) :
    takeTurn s = { s with callers := s.callers.set c (s.outstanding c).tail, schedule := cs } := by
  simp [takeTurn, h]

/-- With no turn scheduled nothing is taken. -/
theorem takeTurn_nil {s : State} (h : s.schedule = []) : takeTurn s = s := by
  simp [takeTurn, h]

theorem nextRequest_cons {s : State} {c : Nat} {cs : List Nat} (h : s.schedule = c :: cs) :
    nextRequest s = (s.outstanding c).head? := by
  simp [nextRequest, h]

theorem nextRequest_nil {s : State} (h : s.schedule = []) : nextRequest s = none := by
  simp [nextRequest, h]

theorem gate_absent {s : State} (h : s.life = .absent) (o : Host.Outcome State Fault Refusal) :
    gate s o = .next s.markRefused := by
  simp [gate, h, refuse]

theorem gate_opened {s : State} (h : s.life = .opened) (o : Host.Outcome State Fault Refusal) : gate s o = o := by
  simp [gate, h]

theorem gate_closed {s : State} (h : s.life = .closed) (o : Host.Outcome State Fault Refusal) :
    gate s o = .next (s.respond { status := .senderClosed, data := [] }) := by
  simp [gate, h, raise]

theorem submit_held {s : State} (h : s.xport = .held) (e : Event) : submit s e = s.answer := by
  simp [submit, h]

theorem submit_released {s : State} (h : s.xport = .released) (e : Event) : submit s e = .fail := by
  simp [submit, h]

/-- CREATE's register writes, all at once (R112). -/
theorem State.newSender_eq (s : State) (host : Option HostName) (port : Option Half) (univ : Option Int) :
    s.newSender host port univ =
      { s with
        life := .opened
        host := operandOr host s.params.defaultHost
        port := operandOr port s.params.defaultPort
        univ := operandOr (univ.map halfOfInt) Config.defaultUniverse
        xport := .held } := by
  cases s with
  | mk life => cases life <;> rfl

/-- CONFIGURE's register writes, all at once (R113). -/
theorem State.reconfigured_eq (s : State) (host : Option HostName) (port : Option Half) (univ : Option Int) :
    s.reconfigured host port univ =
      { s with
        host := operandOr host s.host
        port := operandOr port s.port
        univ := operandOr (univ.map halfOfInt) s.univ } := rfl

/-- CLOSE's register writes, all at once (R116). -/
theorem State.closeSender_eq (s : State) : s.closeSender = { s with life := .closed, xport := .released } := rfl

/-- An operand that is present is used; one that is omitted leaves its stand-in (R74). -/
@[simp] theorem operandOr_some {α : Type} (v d : α) : operandOr (some v) d = v := rfl

@[simp] theorem operandOr_none {α : Type} (d : α) : operandOr none d = d := rfl

theorem validUniverse_iff (v : Int) : validUniverse v = true ↔ 0 ≤ v ∧ v ≤ 65535 := by
  simp [validUniverse]

theorem byteInRange_iff (v : Int) : byteInRange v = true ↔ 0 ≤ v ∧ v ≤ 255 := by
  simp [byteInRange]

theorem validUniverseOperand_iff (univ : Option Int) :
    validUniverseOperand univ = true ↔ ∀ v, univ = some v → 0 ≤ v ∧ v ≤ 65535 := by
  cases univ <;> simp [validUniverseOperand, validUniverse_iff]

/-- What CREATE can answer. -/
theorem execCreate_cases (host : Option HostName) (port : Option Half) (univ : Option Int) (s : State) :
    (validUniverseOperand univ = false ∧
        execCreate host port univ s = .next (s.respond { status := .invalidUniverse, data := [] })) ∨
      (validUniverseOperand univ = true ∧ s.answer = .fail ∧
        execCreate host port univ s = .next (s.respond { status := .transportFailure, data := [] })) ∨
      (validUniverseOperand univ = true ∧ s.answer = .ok ∧
        execCreate host port univ s = .next ((s.newSender host port univ).respond { status := .ok, data := [] })) := by
  cases hv : validUniverseOperand univ <;> cases ha : s.answer <;>
    simp [execCreate, acquire, complete, raise, hv, ha]

/-- What CONFIGURE can answer. -/
theorem execConfigure_cases (host : Option HostName) (port : Option Half) (univ : Option Int) (s : State) :
    (s.life = .absent ∧ execConfigure host port univ s = .next s.markRefused) ∨
      (s.life = .closed ∧ execConfigure host port univ s = .next (s.respond { status := .senderClosed, data := [] })) ∨
      (s.life = .opened ∧ validUniverseOperand univ = false ∧
        execConfigure host port univ s = .next (s.respond { status := .invalidUniverse, data := [] })) ∨
      (s.life = .opened ∧ validUniverseOperand univ = true ∧
        execConfigure host port univ s =
          .next ((s.reconfigured host port univ).respond { status := .ok, data := [] })) := by
  cases hl : s.life <;> cases hv : validUniverseOperand univ <;>
    simp [execConfigure, gate, refuse, complete, raise, hl, hv]

/-- What SET_UNIVERSE can answer. -/
theorem execSetUniverse_cases (univ : Int) (s : State) :
    (s.life = .absent ∧ execSetUniverse univ s = .next s.markRefused) ∨
      (s.life = .closed ∧ execSetUniverse univ s = .next (s.respond { status := .senderClosed, data := [] })) ∨
      (s.life = .opened ∧ validUniverse univ = false ∧
        execSetUniverse univ s = .next (s.respond { status := .invalidUniverse, data := [] })) ∨
      (s.life = .opened ∧ validUniverse univ = true ∧
        execSetUniverse univ s = .next ((s.setUniv (halfOfInt univ)).respond { status := .ok, data := [] })) := by
  cases hl : s.life <;> cases hv : validUniverse univ <;>
    simp [execSetUniverse, gate, refuse, complete, raise, hl, hv]

/-- What SEND can answer. -/
theorem execSend_cases (frame : Frame) (s : State) :
    (s.life = .absent ∧ execSend frame s = .next s.markRefused) ∨
      (s.life = .closed ∧ execSend frame s = .next (s.respond { status := .senderClosed, data := [] })) ∨
      (s.life = .opened ∧ validFrame frame = false ∧
        execSend frame s = .next (s.respond { status := .invalidChannelFrame, data := [] })) ∨
      (s.life = .opened ∧ validFrame frame = true ∧ submit s (sendEvent s frame) = .fail ∧
        execSend frame s = .next (s.respond { status := .transportFailure, data := [] })) ∨
      (s.life = .opened ∧ validFrame frame = true ∧ submit s (sendEvent s frame) = .ok ∧
        execSend frame s =
          .next ((s.appendEvent (sendEvent s frame)).respond { status := .ok, data := [] })) := by
  cases hl : s.life <;> cases hv : validFrame frame <;> cases ht : submit s (sendEvent s frame) <;>
    simp [execSend, gate, refuse, complete, raise, hl, hv, ht]

/-- What CLOSE can answer. -/
theorem execClose_cases (s : State) :
    (s.life = .absent ∧ execClose s = .next s.markRefused) ∨
      (s.life = .closed ∧ execClose s = .next (s.respond { status := .senderClosed, data := [] })) ∨
      (s.life = .opened ∧ execClose s = .next (s.closeSender.respond { status := .ok, data := [] })) := by
  cases hl : s.life <;> simp [execClose, gate, refuse, complete, raise, hl]

/-- What ENCODE can answer. -/
theorem execEncode_cases (seq phys : Byte) (univ : Half) (frame : Frame) (s : State) :
    (validFrame frame = false ∧
        execEncode seq phys univ frame s = .next (s.respond { status := .invalidChannelFrame, data := [] })) ∨
      (validFrame frame = true ∧
        execEncode seq phys univ frame s =
          .next (s.respond { status := .ok, data := artdmx seq phys univ frame })) := by
  cases hv : validFrame frame <;> simp [execEncode, complete, raise, hv]

end Sys2Proof.Machine
end

