-- ==== Sys2Proof/Laws/Packet.lean ====
section
/-! SUPPORT. The laws of the packet buffer: every write keeps its canonical form, a read after a write, and the layout
that the five steps of R92 leave. -/

namespace Sys2Proof.Machine

theorem mem_memWrite {p : Pkt} {k : Nat} {v : Byte} {c : Host.Cell} (h : c ∈ memWrite p k v) :
    c = (k, v) ∨ c ∈ p := by
  induction p with
  | nil => simpa [memWrite] using h
  | cons c0 p ih =>
    obtain ⟨a, b⟩ := c0
    simp only [memWrite] at h
    split at h
    · simpa using h
    · split at h
      · rcases List.mem_cons.mp h with h | h <;> simp [h]
      · rcases List.mem_cons.mp h with h | h
        · simp [h]
        · rcases ih h with h | h <;> simp [h]

/-- A write keeps the canonical form. -/
theorem memWrite_wf {p : Pkt} (k : Nat) (v : Byte) (h : pktWf p) : pktWf (memWrite p k v) := by
  induction p with
  | nil => exact List.pairwise_singleton _ _
  | cons c p ih =>
    obtain ⟨a, b⟩ := c
    simp only [pktWf, List.map_cons, List.pairwise_cons, List.mem_map, forall_exists_index, and_imp,
      forall_apply_eq_imp_iff₂] at h
    obtain ⟨hlt, hp⟩ := h
    simp only [memWrite]
    split
    · rename_i hk
      simp only [pktWf, List.map_cons, List.pairwise_cons, List.mem_cons, List.mem_map]
      refine ⟨?_, ?_, hp⟩
      · rintro x (rfl | ⟨c, hc, rfl⟩)
        · exact hk
        · exact Nat.lt_trans hk (hlt c hc)
      · rintro x ⟨c, hc, rfl⟩
        exact hlt c hc
    · split
      · rename_i hk
        subst hk
        simp only [pktWf, List.map_cons, List.pairwise_cons, List.mem_map]
        refine ⟨?_, hp⟩
        rintro x ⟨c, hc, rfl⟩
        exact hlt c hc
      · rename_i h1 h2
        simp only [pktWf, List.map_cons, List.pairwise_cons, List.mem_map]
        refine ⟨?_, ih hp⟩
        rintro x ⟨c, hc, rfl⟩
        rcases mem_memWrite hc with rfl | hc
        · simp only; omega
        · exact hlt c hc

/-- A read after a write: the byte written, at its own offset; what was there before, anywhere else. -/
theorem pktRead_memWrite {p : Pkt} (h : pktWf p) (k j : Nat) (v : Byte) :
    pktRead (memWrite p k v) j = if j = k then some v else pktRead p j := by
  induction p with
  | nil => simp [memWrite, pktRead]
  | cons c p ih =>
    obtain ⟨a, b⟩ := c
    have hp : pktWf p := (List.pairwise_cons.mp h).2
    simp only [memWrite]
    split
    · simp [pktRead]
    · split
      · rename_i hk
        subst hk
        simp only [pktRead]
        split <;> rfl
      · rename_i h1 h2
        simp only [pktRead, ih hp]
        by_cases hja : j = a
        · subst hja
          simp [Ne.symm h2]
        · simp [hja]

/-- A write past everything written so far lands at the end. -/
theorem memWrite_append {p : Pkt} {k : Nat} {v : Byte} (h : ∀ c ∈ p, c.1 < k) : memWrite p k v = p ++ [(k, v)] := by
  induction p with
  | nil => rfl
  | cons c p ih =>
    obtain ⟨a, b⟩ := c
    have ha : a < k := h (a, b) (by simp)
    simp only [memWrite]
    rw [if_neg (by omega), if_neg (by omega), ih (fun c hc => h c (by simp [hc]))]
    rfl

theorem writeBytes_wf (vs : List Byte) (k : Nat) {p : Pkt} (h : pktWf p) : pktWf (writeBytes vs k p) := by
  induction vs generalizing k p with
  | nil => exact h
  | cons v vs ih => exact ih (k + 1) (memWrite_wf k v h)

theorem copyFrame_wf (f : Frame) (n i : Nat) {p : Pkt} (h : pktWf p) : pktWf (copyFrame f n i p) := by
  induction n generalizing i p with
  | zero => exact h
  | succ n ih =>
    simp only [copyFrame]
    split
    · exact ih _ (memWrite_wf _ _ h)
    · exact ih _ h

theorem writeFixed_wf (seq phys : Byte) (u : Half) (len : Nat) : pktWf (writeFixed seq phys u len) := by
  unfold writeFixed
  exact memWrite_wf _ _ (memWrite_wf _ _ (memWrite_wf _ _ (memWrite_wf _ _ (memWrite_wf _ _ (memWrite_wf _ _
    (writeBytes_wf _ _ List.Pairwise.nil))))))

/-- PKT is in canonical form when the packet leaves the block. -/
theorem artdmxPkt_wf (seq phys : Byte) (u : Half) (f : Frame) : pktWf (artdmxPkt seq phys u f) :=
  copyFrame_wf f _ 0 (writeFixed_wf seq phys u f.length)

/-- The fixed part, byte by byte. -/
theorem writeFixed_bytes (seq phys : Byte) (u : Half) (len : Nat) :
    pktBytes (writeFixed seq phys u len) =
      header ++ [seq, phys, lowByte u, highByte u, lengthHigh len, lengthLow len] := rfl

theorem writeFixed_offsets (seq phys : Byte) (u : Half) (len : Nat) :
    ∀ c ∈ writeFixed seq phys u len, c.1 < 18 := by
  have h : (writeFixed seq phys u len).map Prod.fst = List.range 18 := rfl
  intro c hc
  have : c.1 ∈ (writeFixed seq phys u len).map Prod.fst := List.mem_map_of_mem hc
  rw [h] at this
  simpa using this

/-- Copying the rest of a frame appends its bytes, in order. -/
theorem copyFrame_bytes (f : Frame) (n i : Nat) (p : Pkt) (hn : i + n = f.length)
    (hp : ∀ c ∈ p, c.1 < Config.fixedLen + i) :
    pktBytes (copyFrame f n i p) = pktBytes p ++ (f.drop i).map byteOfInt := by
  induction n generalizing i p with
  | zero =>
    have : f.drop i = [] := List.drop_eq_nil_of_le (by omega)
    simp [copyFrame, this]
  | succ n ih =>
    have hi : i < f.length := by omega
    have hr : memRead f i = some f[i] := by simp [memRead, hi]
    simp only [copyFrame, hr]
    rw [ih (i + 1) _ (by omega)]
    · rw [memWrite_append hp, List.drop_eq_getElem_cons hi, List.map_cons]
      simp only [pktBytes, List.map_append, List.map_cons, List.map_nil, List.append_assoc, List.cons_append,
        List.nil_append]
    · intro c hc
      rcases mem_memWrite hc with rfl | hc
      · simp only; omega
      · have := hp c hc; omega

/-- The whole packet: the fixed part, then the frame. -/
theorem artdmx_eq (seq phys : Byte) (u : Half) (f : Frame) :
    artdmx seq phys u f =
      header ++ [seq, phys, lowByte u, highByte u, lengthHigh f.length, lengthLow f.length] ++ f.map byteOfInt := by
  unfold artdmx artdmxPkt
  rw [copyFrame_bytes f f.length 0 _ (by simp) (writeFixed_offsets seq phys u f.length), writeFixed_bytes]
  simp

theorem validFrame_iff (f : Frame) : validFrame f = true ↔ f.length ≤ 65535 ∧ ∀ v ∈ f, 0 ≤ v ∧ v ≤ 255 := by
  rw [validFrame, Bool.and_eq_true, decide_eq_true_eq, List.all_eq_true]
  simp only [byteInRange, Bool.and_eq_true, decide_eq_true_eq, Config.maxFrameLen]

end Sys2Proof.Machine
end

