-- ==== Sys2Proof/Laws/PerInstr.lean ====
section
/-! SUPPORT. A family of facts proved command by command: the word that presents a command is never a reserved one
(30_encoding.md R75). -/

namespace Sys2Proof.Laws.PresentedWord

/-- The word that presents the command is well formed. -/
def Statement (i : Instr) : Prop := Command.wordWellFormed (Sys2Proof.encode i).word = true

/-- A word made of its fields is well formed whenever its operation has optional operands. -/
theorem makeWord_optional (u p h : Bool) :
    Command.wordWellFormed (makeWord u p h 1#3) = true ∧ Command.wordWellFormed (makeWord u p h 2#3) = true := by
  cases u <;> cases p <;> cases h <;> decide

theorem create (host : Option HostName) (port : Option Half) (univ : Option Int) :
    Statement (.create host port univ) := (makeWord_optional _ _ _).1

theorem configure (host : Option HostName) (port : Option Half) (univ : Option Int) :
    Statement (.configure host port univ) := (makeWord_optional _ _ _).2

theorem setUniverse (univ : Int) : Statement (.setUniverse univ) := by
  show Command.wordWellFormed (makeWord false false false 3#3) = true
  decide

theorem send (frame : Frame) : Statement (.send frame) := by
  show Command.wordWellFormed (makeWord false false false 4#3) = true
  decide

theorem close : Statement .close := by
  show Command.wordWellFormed (makeWord false false false 5#3) = true
  decide

theorem encode (seq phys : Byte) (univ : Half) (frame : Frame) : Statement (.encode seq phys univ frame) := by
  show Command.wordWellFormed (makeWord false false false 6#3) = true
  decide

end Sys2Proof.Laws.PresentedWord
end

