-- ==== Sys2Proof/Laws/Step.lean ====
section
/-! SUPPORT. What one step can do: it passes a turn, refuses a reserved word, or executes the command that is taken. -/

namespace Sys2Proof.Machine

theorem runRequest_ok {r : Request} {i : Instr} (h : decode r.command = .ok i) (s : State) :
    runRequest r s = exec i (s.setAnswer r.answer) := by
  simp [runRequest, h]

theorem runRequest_error {r : Request} {e : DecodeError} (h : decode r.command = .error e) (s : State) :
    runRequest r s = .next s.markRefused := by
  simp [runRequest, h, refuse]

/-- The three things a step can be. -/
theorem step_cases (s : State) :
    (nextRequest s = none ∧ step s = .next (takeTurn s)) ∨
      (∃ r e, nextRequest s = some r ∧ decode r.command = .error e ∧ step s = .next (takeTurn s).markRefused) ∨
      (∃ r i, nextRequest s = some r ∧ decode r.command = .ok i ∧
        step s = exec i ((takeTurn s).setAnswer r.answer)) := by
  cases hn : nextRequest s with
  | none => exact .inl ⟨rfl, by simp [step, hn]⟩
  | some r =>
    cases hd : decode r.command with
    | error e => exact .inr (.inl ⟨r, e, rfl, hd, by simp [step, hn, runRequest_error hd]⟩)
    | ok i => exact .inr (.inr ⟨r, i, rfl, hd, by simp [step, hn, runRequest_ok hd]⟩)

/-- A word placed with `withFetchWord` is the command taken next. -/
theorem nextRequest_withFetchWord (s : State) (nbits w : Nat) :
    nextRequest (s.withFetchWord nbits w) = some (tableRequest w s.answer) := by
  cases h : s.callers <;>
    simp [nextRequest, State.withFetchWord, State.outstanding, presentFirst, h]

end Sys2Proof.Machine
end

