-- ==== Sys2Proof/Laws/Run.lean ====
section
/-! SUPPORT. The host's run of the machine, one step at a time. -/

namespace Sys2Proof.Machine

theorem run_zero (s : State) : core.run 0 s = (.next s : Host.Outcome State Fault Refusal) := rfl

/-- A run of one step more begins with a step. -/
theorem run_succ (n : Nat) (s : State) :
    core.run (n + 1) s =
      (match step s with
        | .next s' => core.run n s'
        | .fault r => .fault r
        | .refused r => .refused r : Host.Outcome State Fault Refusal) := by
  unfold core
  simp only [Host.Core.run]
  cases step s <;> rfl

/-- A run whose first step goes on. -/
theorem run_step {n : Nat} {s t : State} (h : step s = .next t) :
    core.run (n + 1) s = (core.run n t : Host.Outcome State Fault Refusal) := by
  rw [run_succ, h]

/-- A property that every step keeps holds at the end of every run. -/
theorem run_induction {P : State → Prop} (hstep : ∀ s t, P s → step s = .next t → P t) :
    ∀ (n : Nat) (s t : State), P s → core.run n s = (.next t : Host.Outcome State Fault Refusal) → P t := by
  intro n
  induction n with
  | zero =>
    intro s t hs h
    rw [run_zero] at h
    cases h
    exact hs
  | succ n ih =>
    intro s t hs h
    rw [run_succ] at h
    cases hst : step s with
    | next u =>
      rw [hst] at h
      exact ih u t (hstep s u hs hst) h
    | fault r => exact nomatch r
    | refused r => rw [hst] at h; cases h

end Sys2Proof.Machine
end

