-- ==== Sys2Proof/Machine/Assembler.lean ====
section
/-! DEFINITION. The assembler line form of 30_encoding.md R77 (decision D30): one command per line, read into the command
it spells. There are no pseudo-instructions (R78). The block never sees this form; a program is written in it. -/

namespace Sys2Proof.Machine

/-- The pieces of a line. -/
inductive Token where
  /-- A mnemonic, an operand name or a number. -/
  | word (w : String)
  /-- A string between double quotes. -/
  | text (t : String)
  | comma
  | leftBracket
  | rightBracket
  | star
  | equals
  /-- A quote that is not closed. -/
  | bad
  deriving DecidableEq, Repr

/-- The word read so far (last character first), if there is one. -/
def pendingWord (acc : List Char) : List Token :=
  if acc.isEmpty then [] else [.word (String.ofList acc.reverse)]

/-- The token a single character stands for, if it stands alone. -/
def markToken (c : Char) : Option Token :=
  if c = ',' then some .comma
  else if c = '[' then some .leftBracket
  else if c = ']' then some .rightBracket
  else if c = '*' then some .star
  else if c = '=' then some .equals
  else none

/-- Cut a line into tokens; the flag says whether we stand between double quotes. -/
def tokenize : List Char → List Char → Bool → List Token
  | [], acc, false => pendingWord acc
  | [], _, true => [.bad]
  | c :: cs, acc, true =>
    if c = '"' then .text (String.ofList acc.reverse) :: tokenize cs [] false else tokenize cs (c :: acc) true
  | c :: cs, acc, false =>
    if c = ' ' then pendingWord acc ++ tokenize cs [] false
    else if c = '"' then pendingWord acc ++ tokenize cs [] true
    else
      match markToken c with
      | some t => pendingWord acc ++ t :: tokenize cs [] false
      | none => tokenize cs (c :: acc) false

/-- The value of one digit in a base of at most 16. -/
def digitValue (base : Nat) (c : Char) : Option Nat :=
  let n := c.toNat
  let v := if 48 ≤ n ∧ n ≤ 57 then n - 48 else if 65 ≤ n ∧ n ≤ 70 then n - 55 else if 97 ≤ n ∧ n ≤ 102 then n - 87 else base
  if v < base then some v else none

/-- The value of a row of digits, most significant first. -/
def digitsValue (base : Nat) : List Char → Nat → Option Nat
  | [], acc => some acc
  | c :: cs, acc =>
    match digitValue base c with
    | some v => digitsValue base cs (base * acc + v)
    | none => none

/-- A natural number, decimal or `0x` hexadecimal (R77). -/
def readNat : List Char → Option Nat
  | [] => none
  | '0' :: 'x' :: c :: cs => digitsValue 16 (c :: cs) 0
  | c :: cs => digitsValue 10 (c :: cs) 0

/-- An integer: a natural number, or one after a minus sign. -/
def readInt : List Char → Option Int
  | '-' :: cs => (readNat cs).map (fun n => -(n : Int))
  | cs => (readNat cs).map (fun n => (n : Int))

/-- A number typed to `w` bits: one outside 0 .. 2^w - 1 cannot be written (R72, R77). -/
def readBits (w : Nat) (cs : List Char) : Option (BitVec w) :=
  match readNat cs with
  | some n => if n < 2 ^ w then some (BitVec.ofNat w n) else none
  | none => none

/-- The elements of a frame after its opening bracket, and the tokens after its closing one. -/
def readElements : List Token → Option (Frame × List Token)
  | .word w :: .rightBracket :: rest => (readInt w.toList).map (fun v => ([v], rest))
  | .word w :: .comma :: rest =>
    match readInt w.toList, readElements rest with
    | some v, some (vs, tail) => some (v :: vs, tail)
    | _, _ => none
  | _ => none

/-- A whole frame: `[v, v, ...]`, `[]`, or `[v]*n` for `n` repeated values (R77). -/
def readFrame : List Token → Option Frame
  | [.leftBracket, .rightBracket] => some []
  | .leftBracket :: rest =>
    match readElements rest with
    | some (f, []) => some f
    | some ([v], [.star, .word n]) => (readNat n.toList).map (fun k => List.replicate k v)
    | _ => none
  | _ => none

/-- The optional operands of CREATE and CONFIGURE, in the order R77 writes them. -/
structure OptionalOperands where
  host : Option HostName
  port : Option Half
  univ : Option Int
  deriving DecidableEq, Repr

/-- `[universe=<integer>]` and the end of the line. -/
def readUniverseOperand (host : Option HostName) (port : Option Half) : List Token → Option OptionalOperands
  | [] => some { host := host, port := port, univ := none }
  | [.word "universe", .equals, .word v] =>
    (readInt v.toList).map (fun u => { host := host, port := port, univ := some u })
  | _ => none

/-- `[port=<0..65535>]` and what follows it. -/
def readPortOperand (host : Option HostName) : List Token → Option OptionalOperands
  | .word "port" :: .equals :: .word v :: rest =>
    match readBits 16 v.toList with
    | some p => readUniverseOperand host (some p) rest
    | none => none
  | rest => readUniverseOperand host none rest

/-- `[host=<string>]` and what follows it; the string may stand in quotes. -/
def readOptionalOperands : List Token → Option OptionalOperands
  | .word "host" :: .equals :: .text h :: rest => readPortOperand (some h) rest
  | .word "host" :: .equals :: .word h :: rest => readPortOperand (some h) rest
  | rest => readPortOperand none rest

/-- The command a row of tokens spells. -/
def readCommand : List Token → Option Instr
  | .word "CREATE" :: rest => (readOptionalOperands rest).map (fun o => .create o.host o.port o.univ)
  | .word "CONFIGURE" :: rest => (readOptionalOperands rest).map (fun o => .configure o.host o.port o.univ)
  | [.word "SET_UNIVERSE", .word v] => (readInt v.toList).map (fun u => .setUniverse u)
  | .word "SEND" :: rest => (readFrame rest).map (fun f => .send f)
  | [.word "CLOSE"] => some .close
  | .word "ENCODE" :: .word a :: .comma :: .word b :: .comma :: .word u :: .comma :: rest =>
    match readBits 8 a.toList, readBits 8 b.toList, readBits 16 u.toList, readFrame rest with
    | some seq, some phys, some univ, some f => some (.encode seq phys univ f)
    | _, _, _, _ => none
  | _ => none

/-- The command a line spells (R77). -/
def parseLine (line : String) : Option Instr := readCommand (tokenize line.toList [] false)

/-- The word and operands a line assembles to. -/
def assembleLine (line : String) : Option Command := (parseLine line).map encode

end Sys2Proof.Machine
end

