-- ==== Sys2Proof/Tests/Slice0.lean ====
section
/-! SUPPORT. Our own tests. Expected values are from 95_test_vectors.md (the vector is named) or worked out by hand from
the rule named. -/

namespace Sys2Proof.Tests

open Sys2Proof Sys2Proof.Machine

/-- The next state, where there is one. -/
def after (o : Host.Outcome State Fault Refusal) : Option State :=
  match o with
  | .next s => some s
  | .fault _ => none
  | .refused _ => none

/-- An open sender (R171). -/
def openState : State := State.reset

/-- A sender that was closed. -/
def closedState : State := { State.reset with life := .closed, xport := .released }

/-- No sender yet (R172). -/
def absentState : State := State.powerOn

def okResponse : Response := { status := .ok, data := [] }

/-! ## Well-formedness of words: one ill-formed word for each check -/

theorem test_reservedBits_refused : Command.reservedBitsClear 0x41#8 = false := by decide
theorem test_undefinedOp_refused : Command.opDefined 0x07#8 = false ∧ Command.opDefined 0x00#8 = false := by decide
theorem test_strayPresence_refused : Command.presenceAllowed 0x0C#8 = false := by decide
theorem test_legal_word_accepted : Command.wordWellFormed 0x39#8 = true := by decide

/-- COVERAGE.json, E3: "20 of the 256 words are legal". -/
theorem test_twenty_words_are_legal :
    ((List.range 256).filter (fun n => Command.wordWellFormed (BitVec.ofNat 8 n))).length = 20 := by decide

/-! ## Decoding: words written out bit by bit from R71 and R73 (vectors W-1 to W-11) -/

/-- Operand lanes that are all different from zero. -/
def lanes : Operands :=
  { host := "10.0.0.1", port := 7#16, univ := -1, frame := [1, 300], seq := 5#8, phys := 3#8, encUniv := 0xABCD#16 }

theorem test_decode_create : decode ⟨0b00001001#8, lanes⟩ = .ok (.create (some "10.0.0.1") none none) := by decide
theorem test_decode_configure : decode ⟨0b00110010#8, lanes⟩ = .ok (.configure none (some 7#16) (some (-1))) := by decide
theorem test_decode_setUniverse : decode ⟨0b00000011#8, lanes⟩ = .ok (.setUniverse (-1)) := by decide
theorem test_decode_send : decode ⟨0b00000100#8, lanes⟩ = .ok (.send [1, 300]) := by decide
theorem test_decode_close : decode ⟨0b00000101#8, lanes⟩ = .ok .close := by decide
theorem test_decode_encode : decode ⟨0b00000110#8, lanes⟩ = .ok (.encode 5#8 3#8 0xABCD#16 [1, 300]) := by decide
theorem test_decode_W1_W2 :
    decode ⟨0x00#8, lanes⟩ = .error .reservedOp ∧ decode ⟨0x07#8, lanes⟩ = .error .reservedOp := by decide
theorem test_decode_W3_W4 :
    decode ⟨0x41#8, lanes⟩ = .error .reservedBits ∧ decode ⟨0x86#8, lanes⟩ = .error .reservedBits := by decide
theorem test_decode_W5_to_W8 : ∀ w ∈ [0x0C#8, 0x0B#8, 0x0E#8, 0x2D#8], decode ⟨w, lanes⟩ = .error .strayPresence := by
  decide
theorem test_encode_W9_W10 :
    (encode (.create (some "a") (some 1) (some 2))).word = 0x39#8 ∧
      (encode (.configure (some "a") (some 1) (some 2))).word = 0x3A#8 := by decide
theorem test_table_words :
    (List.range 8).map (decodeTableWord 8) =
      [none, some (.create none none none), some (.configure none none none), some (.setUniverse 0), some (.send []),
        some .close, some (.encode 0#8 0#8 0#16 []), none] := by decide

/-! ## ENCODE -/

/-- Vector E-8, and E-19: in ABSENT. -/
theorem test_encode_E8 :
    (after (exec (.encode 255#8 255#8 0xABCD#16 [0xAA]) absentState)).map State.responses =
      some [⟨.ok, [0x41#8, 0x72#8, 0x74#8, 0x2D#8, 0x4E#8, 0x65#8, 0x74#8, 0x00#8, 0x00#8, 0x50#8, 0x00#8, 0x0E#8,
        0xFF#8, 0xFF#8, 0xCD#8, 0xAB#8, 0x00#8, 0x01#8, 0xAA#8]⟩] := by decide

/-- Vector E-17. -/
theorem test_encode_E17 :
    (after (exec (.encode 0#8 0#8 0#16 [1, 2, 300]) closedState)).map State.responses =
      some [⟨.invalidChannelFrame, []⟩] := by decide

/-- Vector E-12, the Length bytes of a frame of 515 bytes. -/
theorem test_length_bytes_E12 : lengthHigh 515 = 0x02#8 ∧ lengthLow 515 = 0x03#8 := by decide

/-! ## CREATE -/

/-- Vector C-6. -/
theorem test_create_C6 :
    (after (exec (.create (some "10.0.0.1") (some 0#16) none) absentState)).map
        (fun t => (t.life, t.host, t.port, t.univ, t.xport)) =
      some (.opened, "10.0.0.1", 0#16, 0#16, .held) := by decide

/-- Vectors C-7 and C-8: a new sender, and a failed CREATE on an open one; `H` stays. -/
theorem test_create_C7_C8 :
    let s : State := { openState with host := "a", port := 1#16, univ := 3#16, history := [⟨"a", 1#16, []⟩] }
    (after (exec (.create none none none) s)).map (fun t => (t.host, t.port, t.univ, t.history)) =
        some ("255.255.255.255", 6454#16, 0#16, [⟨"a", 1#16, []⟩]) ∧
      after (exec (.create none none (some 70000)) s) = some { s with responses := [⟨.invalidUniverse, []⟩] } := by
  decide

/-! ## CONFIGURE and SET_UNIVERSE -/

/-- Vector F-2 and F-3 together: a present operand is written, the omitted port is kept. -/
theorem test_configure_F2_F3 :
    (after (exec (.configure (some "h") none (some 65535)) openState)).map (fun t => (t.host, t.port, t.univ)) =
      some ("h", 6454#16, 65535#16) := by decide

/-- Vectors F-4 and F-6. -/
theorem test_configure_F4_F6 :
    after (exec (.configure (some "h2") (some 1#16) (some 65536)) openState) =
        some { openState with responses := [⟨.invalidUniverse, []⟩] } ∧
      after (exec (.configure none none (some 70000)) closedState) =
        some { closedState with responses := [⟨.senderClosed, []⟩] } := by decide

/-- Vector U-5. -/
theorem test_setUniverse_U5 : (after (exec (.setUniverse 0x1234) openState)).map State.univ = some 4660#16 := by decide

/-- Vectors U-4 and U-7. -/
theorem test_setUniverse_U4_U7 :
    after (exec (.setUniverse (-1)) openState) = some { openState with responses := [⟨.invalidUniverse, []⟩] } ∧
      (after (exec (.setUniverse 1) absentState)).map State.observe = some ⟨[], [], true⟩ := by decide

/-! ## SEND and CLOSE -/

/-- The packet of 41_sender.md R115's example, on a sender with universe 1 (L1-6). -/
theorem test_send_L1_6 :
    (after (exec (.send [255, 0, 128]) { openState with univ := 1#16 })).map State.history =
      some [⟨"255.255.255.255", 6454#16, [0x41#8, 0x72#8, 0x74#8, 0x2D#8, 0x4E#8, 0x65#8, 0x74#8, 0x00#8, 0x00#8,
        0x50#8, 0x00#8, 0x0E#8, 0x00#8, 0x00#8, 0x01#8, 0x00#8, 0x00#8, 0x03#8, 0xFF#8, 0x00#8, 0x80#8]⟩] := by decide

/-- Vectors D-7 and D-10. -/
theorem test_send_D7_D10 :
    after (exec (.send [1]) { openState with answer := .fail }) =
        some { openState with answer := .fail, responses := [⟨.transportFailure, []⟩] } ∧
      after (exec (.send [300]) closedState) = some { closedState with responses := [⟨.senderClosed, []⟩] } := by decide

/-- Vectors X-1 and X-2. -/
theorem test_close_X1_X2 :
    after (exec .close openState) = some { closedState with responses := [okResponse] } ∧
      after (exec .close closedState) = some { closedState with responses := [⟨.senderClosed, []⟩] } := by decide

/-- Vector X-3. -/
theorem test_close_X3 : (after (exec .close absentState)).map State.observe = some ⟨[], [], true⟩ := by decide

/-! ## The step, the reference decoder, the assembler, the codes -/

theorem test_step_runs_the_placed_word :
    (after (step (State.reset.withFetchWord 8 5))).map State.life = some .closed ∧
      (after (step (State.reset.withFetchWord 8 0))).map State.refusalMark = some true := by decide

/-- Vectors R-5 and R-6. -/
theorem test_decodePacket_R5_R6 :
    decodePacket (wirePacket 5#8 3#8 0xABCD [0xAA]) =
        some { seq := 5#8, phys := 3#8, univ := 0xABCD#16, frame := [0xAA] } ∧
      decodePacket ((wirePacket 0#8 0#8 1 [255, 0, 128]).set 9 0x51#8) = none := by decide

/-- Vectors R-3 and R-4. -/
theorem test_decodePacket_R3_R4 :
    decodePacket ((wirePacket 0#8 0#8 1 [255, 0, 128]).take 20) = none ∧
      decodePacket ((wirePacket 0#8 0#8 0 []).take 17) = none := by decide

/-- Program P2, step 1, and P3, step 3: the line and the word it assembles to. -/
theorem test_assemble_P2_P3 :
    parseLine "CREATE host=\"10.0.0.5\" port=6454 universe=1" =
        some (.create (some "10.0.0.5") (some 6454#16) (some 1)) ∧
      (assembleLine "CONFIGURE host=\"192.168.1.255\" universe=65536").map Command.word = some 0x2A#8 := by decide

theorem test_assemble_frames :
    parseLine "SEND [0x55]*3" = some (.send [0x55, 0x55, 0x55]) ∧ parseLine "SEND []" = some (.send []) ∧
      parseLine "ENCODE 5, 3, 0xABCD, [9, -1]" = some (.encode 5#8 3#8 0xABCD#16 [9, -1]) ∧
      parseLine "ENCODE 256, 0, 0, [9]" = none ∧ parseLine "SET_UNIVERSE -1" = some (.setUniverse (-1)) ∧
      parseLine "CLOSE" = some .close ∧ parseLine "CREATE port=65536" = none := by decide

theorem test_status_codes :
    [Status.ok, .invalidChannelFrame, .invalidUniverse, .senderClosed, .transportFailure].map Status.code =
      [0, 1, 2, 3, 4] := by decide

theorem test_write_then_read :
    pktRead (memWrite (memWrite [] 5 1#8) 3 2#8) 5 = some 1#8 ∧ memWrite (memWrite [] 5 1#8) 3 2#8 = [(3, 2#8), (5, 1#8)] := by
  decide

/-! ## Witnesses: for each statement with hypotheses, a state and operands that meet them -/

theorem zeros_length (n : Nat) : (List.replicate n (0 : Int)).length = n := List.length_replicate

/-- A frame of the greatest length. -/
theorem longest_frame_valid : validFrame (List.replicate 65535 0) = true := by
  rw [validFrame_iff]
  refine ⟨(zeros_length 65535).le, ?_⟩
  intro v hv
  obtain rfl := List.eq_of_mem_replicate hv
  decide

theorem witness_EncodeGivesTheDecodedWordBack : decode ⟨0x39#8, lanes⟩ =
    .ok (.create (some "10.0.0.1") (some 7#16) (some (-1))) := by decide

theorem witness_ReservedWordOnlySetsTheMark :
    ∀ w ∈ [0x00#8, 0x07#8, 0x40#8, 0xFF#8, 0x0B#8], Command.wordWellFormed w = false := by decide

/-- One caller with a SET_UNIVERSE outstanding and another with a SEND. -/
def raceState : State :=
  { openState with
    callers := [[{ command := encode (.setUniverse 65535), answer := .fail }],
      [{ command := encode (.send [0, 255]), answer := .ok }]]
    schedule := [1, 0] }

theorem witness_StepRunsTheDecodedCommand :
    raceState.schedule = 1 :: [0] ∧ raceState.callers[1]? = some ({ command := encode (.send [0, 255]), answer := .ok } :: []) ∧
      decode (encode (.send [0, 255])) = .ok (.send [0, 255]) := by decide

theorem witness_StepWithoutCommandWaits :
    openState.schedule = [] ∧
      (let s : State := { openState with schedule := [3] }; s.schedule = 3 :: [] ∧ s.callers[3]? = none) ∧
      (let s : State := { openState with schedule := [0], callers := [[]] }; s.schedule = 0 :: [] ∧ s.callers[0]? = some []) := by
  decide

theorem witness_EachCallerKeepsItsOrder :
    raceState.schedule = 1 :: [0] ∧ ∃ t, step raceState = .next t := ⟨by decide, _, rfl⟩

/-- The order SEND, SET_UNIVERSE of the two callers of `raceState`. -/
def raceOrder : List (Nat × Request) :=
  [(1, { command := encode (.send [0, 255]), answer := .ok }), (0, { command := encode (.setUniverse 65535), answer := .fail })]

theorem witness_EveryInterleavingIsAnExecution :
    ∀ c, (raceOrder.filter (fun p => p.1 == c)).map Prod.snd = raceState.outstanding c := by
  intro c
  match c with
  | 0 => decide
  | 1 => decide
  | c + 2 => rfl

theorem witness_SequenceAndPhysicalBytes :
    ∃ t e, exec (.send [7]) openState = .next t ∧ t.history = openState.history ++ [e] := ⟨_, _, rfl, rfl⟩

theorem witness_LengthBytesAreHighByteFirst : (List.replicate 65535 (0 : Int)).length ≤ 65535 ∧ ([] : Frame).length ≤ 65535 :=
  ⟨(zeros_length 65535).le, by decide⟩

theorem witness_DataBytesAreTheFrame :
    (validFrame [0, 255] = true ∧ 1 < ([0, 255] : Frame).length) ∧ validFrame [] = true ∧
      validFrame (List.replicate 65535 0) = true := ⟨by decide, by decide, longest_frame_valid⟩

theorem witness_PacketLengthAndItsBounds : ([] : Frame).length ≤ 65535 ∧ (List.replicate 65535 (0 : Int)).length ≤ 65535 :=
  ⟨by decide, (zeros_length 65535).le⟩

theorem witness_ReferenceDecoderRecoversTheInputs : validFrame [0, 255] = true := by decide

theorem witness_EncodeReturnsThePacket : ([0, 255] : Frame).length ≤ 65535 ∧ ∀ v ∈ ([0, 255] : Frame), 0 ≤ v ∧ v ≤ 255 := by
  decide

theorem witness_EncodeRaisesInvalidChannelFrame :
    65535 < (List.replicate 65536 (0 : Int)).length ∧ (∃ v ∈ ([256] : Frame), v < 0 ∨ 255 < v) ∧
      ∃ v ∈ ([3, -1] : Frame), v < 0 ∨ 255 < v := by
  refine ⟨by rw [zeros_length]; omega, by decide, by decide⟩

theorem witness_CreateOpensANewSender :
    (∀ v, (none : Option Int) = some v → 0 ≤ v ∧ v ≤ 65535) ∧ (∀ v, some (65535 : Int) = some v → 0 ≤ v ∧ v ≤ 65535) ∧
      absentState.answer = .ok := by
  refine ⟨by simp, by simp, rfl⟩

theorem witness_CreateReportsTheFirstError :
    (∃ v, some (65536 : Int) = some v ∧ (v < 0 ∨ 65535 < v)) ∧ (∃ v, some (-1 : Int) = some v ∧ (v < 0 ∨ 65535 < v)) ∧
      (∀ v, some (65535 : Int) = some v → 0 ≤ v ∧ v ≤ 65535) ∧ ({ openState with answer := .fail } : State).answer = .fail := by
  refine ⟨⟨_, rfl, by decide⟩, ⟨_, rfl, by decide⟩, by simp, rfl⟩

theorem witness_ConfigureWritesThePresentOperands :
    openState.life = .opened ∧ ∀ v, some (0 : Int) = some v → 0 ≤ v ∧ v ≤ 65535 := by
  refine ⟨rfl, by simp⟩

theorem witness_SetUniverseWritesTheRegister :
    openState.life = .opened ∧ (0 : Int) ≤ 65535 ∧ (65535 : Int) ≤ 65535 ∧ (0 : Int) ≤ 0 := by decide

theorem witness_BadUniverseWritesNoRegister :
    openState.life = .opened ∧ ((-1 : Int) < 0 ∨ 65535 < (-1 : Int)) ∧ ((65536 : Int) < 0 ∨ 65535 < (65536 : Int)) := by decide

theorem witness_CloseReleasesTheResource : openState.life = .opened := rfl

theorem witness_SendDispatchesOnePacket :
    openState.life = .opened ∧ openState.xport = .held ∧ ([0, 255] : Frame).length ≤ 65535 ∧
      (∀ v ∈ ([0, 255] : Frame), 0 ≤ v ∧ v ≤ 255) ∧ openState.answer = .ok := by decide

theorem witness_SendReportsTheFirstError :
    closedState.life = .closed ∧ (openState.life = .opened ∧ 65535 < (List.replicate 65536 (0 : Int)).length) ∧
      (openState.life = .opened ∧ ∃ v ∈ ([256] : Frame), v < 0 ∨ 255 < v) ∧
      (let s : State := { openState with answer := .fail }
       s.life = .opened ∧ ([255] : Frame).length ≤ 65535 ∧ (∀ v ∈ ([255] : Frame), 0 ≤ v ∧ v ≤ 255) ∧ s.answer = .fail) := by
  refine ⟨rfl, ⟨rfl, by rw [zeros_length]; omega⟩, by decide, by decide⟩

theorem witness_UniverseWriteReachesTheNextSendOnly :
    openState.life = .opened ∧ openState.xport = .held ∧ openState.answer = .ok ∧ (0 : Int) ≤ 65535 ∧ (65535 : Int) ≤ 65535 ∧
      ([0x10, 0x20] : Frame).length ≤ 65535 ∧ ∀ w ∈ ([0x10, 0x20] : Frame), 0 ≤ w ∧ w ≤ 255 := by decide

theorem witness_SequenceByteIsNeverIncremented :
    ∃ t, core.run 2 raceState = (.next t : Host.Outcome State Fault Refusal) ∧ t.history ≠ raceState.history :=
  ⟨_, rfl, by decide⟩

theorem witness_TwoSendsMakeTwoEvents :
    openState.life = .opened ∧ openState.xport = .held ∧ validFrame [1] = true ∧ openState.answer = .ok := by decide

theorem witness_ClosedSenderRaisesSenderClosed : closedState.life = .closed := rfl

theorem witness_AbsentSenderRefuses : absentState.life = .absent := rfl

theorem witness_SendAfterCloseIsSenderClosed : openState.life = .opened := rfl

theorem witness_ErrorsArePrecise :
    ∃ t, exec (.setUniverse 65536) openState = .next t ∧ t.responses = openState.responses ++ [⟨.invalidUniverse, []⟩] ∧
      (⟨.invalidUniverse, []⟩ : Response).status ≠ .ok := ⟨_, rfl, rfl, by decide⟩

theorem witness_OneResponseOrARefusal :
    (∃ t, exec (.encode 0#8 0#8 0#16 []) absentState = .next t) ∧ ∃ t, exec (.send []) absentState = .next t :=
  ⟨⟨_, rfl⟩, _, rfl⟩

theorem witness_StatusesOfEachCommand :
    (∃ t, exec (.create none none none) openState = .next t ∧ t.responses = openState.responses ++ [okResponse]) ∧
      (∃ t, exec (.configure none none none) openState = .next t ∧ t.responses = openState.responses ++ [okResponse]) ∧
      (∃ t, exec (.setUniverse 0) openState = .next t ∧ t.responses = openState.responses ++ [okResponse]) ∧
      (∃ t, exec (.send []) openState = .next t ∧ t.responses = openState.responses ++ [okResponse]) ∧
      (∃ t, exec .close openState = .next t ∧ t.responses = openState.responses ++ [okResponse]) ∧
      ∃ t, exec (.encode 0#8 0#8 0#16 [256]) openState = .next t ∧
        t.responses = openState.responses ++ [⟨.invalidChannelFrame, []⟩] :=
  ⟨⟨_, rfl, rfl⟩, ⟨_, rfl, rfl⟩, ⟨_, rfl, rfl⟩, ⟨_, rfl, rfl⟩, ⟨_, rfl, rfl⟩, _, rfl, rfl⟩

theorem witness_FrameOfEveryCommand :
    (∃ t, exec (.create none none none) openState = .next t) ∧ (∃ t, exec (.configure none none none) openState = .next t) ∧
      (∃ t, exec (.setUniverse 0) openState = .next t) ∧ (∃ t, exec (.send []) openState = .next t) ∧
      (∃ t, exec .close openState = .next t) ∧ ∃ t, exec (.encode 0#8 0#8 0#16 []) openState = .next t :=
  ⟨⟨_, rfl⟩, ⟨_, rfl⟩, ⟨_, rfl⟩, ⟨_, rfl⟩, ⟨_, rfl⟩, _, rfl⟩

theorem witness_LifecycleTransitions :
    (∃ t, exec (.create none none none) closedState = .next t ∧ t.life ≠ closedState.life) ∧
      ∃ t, exec .close openState = .next t ∧ t.life ≠ openState.life :=
  ⟨⟨_, rfl, by decide⟩, _, rfl, by decide⟩

theorem witness_HistoryOnlyGrowsAndTheMarkStays :
    ∃ t, core.run 2 { raceState with refusalMark := true } = (.next t : Host.Outcome State Fault Refusal) ∧
      ({ raceState with refusalMark := true } : State).refusalMark = true := ⟨_, rfl, rfl⟩

theorem witness_SafeRunAnswersEveryCommand :
    ∃ t, runAll [{ command := encode (.send [1]), answer := .ok }, { command := encode .close, answer := .ok }] openState =
      .next t ∧ t.Safe := ⟨_, rfl, rfl⟩

theorem witness_EveryStepKeepsTheInvariant : raceState.Inv ∧ ∃ t, step raceState = .next t := ⟨by decide, _, rfl⟩

/-- The first clause, at the greatest universe. -/
theorem witness_ConfigurationRaceHasBothOutcomes :
    raceState.life = .opened ∧ raceState.xport = .held ∧ ([0, 255] : Frame).length ≤ 65535 ∧
      (∀ w ∈ ([0, 255] : Frame), 0 ≤ w ∧ w ≤ 255) ∧
      Instr.setUniverse 65535 = .setUniverse ((65535#16).toNat : Int) ∧
      raceState.callers = [[{ command := encode (.setUniverse 65535), answer := .fail }],
        [{ command := encode (.send [0, 255]), answer := .ok }]] := by decide

/-- One caller with a CONFIGURE of port and universe outstanding and another with a SEND. -/
def configureRaceState : State :=
  { openState with
    callers := [[{ command := encode (.configure none (some 7#16) (some 65535)), answer := .ok }],
      [{ command := encode (.send [0, 255]), answer := .ok }]] }

/-- The second clause, with a present and an omitted operand; and with the universe omitted as well. -/
theorem witness_ConfigurationRaceHasBothOutcomes_configure :
    configureRaceState.life = .opened ∧ configureRaceState.xport = .held ∧
      (∀ v, some (65535 : Int) = some v → 0 ≤ v ∧ v ≤ 65535) ∧
      "255.255.255.255" = (none : Option HostName).getD configureRaceState.host ∧
      7#16 = (some 7#16).getD configureRaceState.port ∧
      ((65535#16).toNat : Int) = (some 65535 : Option Int).getD (configureRaceState.univ.toNat : Int) ∧
      ((0#16).toNat : Int) = (none : Option Int).getD (configureRaceState.univ.toNat : Int) ∧
      configureRaceState.callers =
        [[{ command := encode (.configure none (some 7#16) (some 65535)), answer := .ok }],
          [{ command := encode (.send [0, 255]), answer := .ok }]] := by
  refine ⟨rfl, rfl, by simp, rfl, rfl, rfl, rfl, rfl⟩

/-- One caller with a SEND outstanding and another with a CLOSE. -/
def closeRaceState : State :=
  { openState with
    callers := [[{ command := encode (.send [0, 255]), answer := .ok }], [{ command := encode .close, answer := .ok }]] }

theorem witness_CloseRaceHasBothOutcomes :
    closeRaceState.life = .opened ∧ closeRaceState.xport = .held ∧ ([0, 255] : Frame).length ≤ 65535 ∧
      (∀ w ∈ ([0, 255] : Frame), 0 ≤ w ∧ w ≤ 255) ∧
      closeRaceState.callers = [[{ command := encode (.send [0, 255]), answer := .ok }],
        [{ command := encode .close, answer := .ok }]] := by decide

/-- Two instances, each with something to do. -/
def twoSenders : Platform := { senders := [raceState, closeRaceState] }

theorem witness_InstancesShareNothing :
    (0 : Nat) ≠ 1 ∧ ∃ p1 p2, stepSender 0 twoSenders = .next p1 ∧ stepSender 1 p1 = .next p2 := ⟨by decide, _, _, rfl, rfl⟩

end Sys2Proof.Tests
end

section
/-! The step of a caller with a command outstanding (00_scope.md R8, 20_memory.md R51). -/

namespace Sys2Proof.Machine

theorem outstanding_of_getElem? {s : State} {c : Nat} {q : List Request} (h : s.callers[c]? = some q) :
    s.outstanding c = q := by
  simp [State.outstanding, h]

theorem step_of_nextRequest {s : State} {r : Request} (h : nextRequest s = some r) :
    step s = runRequest r (takeTurn s) := by
  simp [step, h]

/-- A turn of a caller with `r` outstanding first presents `r` to the state without that turn and that request, whether
`r` decodes or not. -/
theorem step_of_turn {s : State} {c : Nat} {cs : List Nat} {r : Request} {rs : List Request}
    (hsched : s.schedule = c :: cs) (hcaller : s.callers[c]? = some (r :: rs)) :
    step s = runRequest r { s with callers := s.callers.set c rs, schedule := cs } := by
  have hout : s.outstanding c = r :: rs := outstanding_of_getElem? hcaller
  have hnext : nextRequest s = some r := by rw [nextRequest_cons hsched, hout, List.head?_cons]
  have htake : takeTurn s = { s with callers := s.callers.set c rs, schedule := cs } := by
    rw [takeTurn_cons hsched, hout, List.tail_cons]
  rw [step_of_nextRequest hnext, htake]

/-- Settles O6: the turn presents the request, and a request that decodes is executed with its own answer. -/
theorem stepRunsTheDecodedCommand : Obligations.StepRunsTheDecodedCommand := by
  intro s c cs r rs i hsched hcaller hdecode
  rw [step_of_turn hsched hcaller, runRequest_ok hdecode, State.setAnswer]

end Sys2Proof.Machine
end

section
/-! What a command can do, said once for all six (10_state.md R33): it is refused, it only answers, or it makes the
writes of its completion and answers. The frame, the lifecycle and the growth of the observation are read off from it. -/

namespace Sys2Proof.Machine

/-- The commands that pass the lifecycle gate of R111. -/
def gated : Instr → Bool
  | .create _ _ _ => false
  | .configure _ _ _ => true
  | .setUniverse _ => true
  | .send _ => true
  | .close => true
  | .encode _ _ _ _ => false

/-- The writes of a command that completes with status OK (R33), before its response. -/
def okWrites (i : Instr) (s : State) : State :=
  match i with
  | .create host port univ => s.newSender host port univ
  | .configure host port univ => s.reconfigured host port univ
  | .setUniverse univ => s.setUniv (halfOfInt univ)
  | .send frame => s.appendEvent (sendEvent s frame)
  | .close => s.closeSender
  | .encode _ _ _ _ => s

/-- No completion writes more than the registers and the history. -/
theorem okWrites_eq (i : Instr) (s : State) :
    okWrites i s =
      { s with
        life := (okWrites i s).life
        host := (okWrites i s).host
        port := (okWrites i s).port
        univ := (okWrites i s).univ
        xport := (okWrites i s).xport
        history := (okWrites i s).history } := by
  cases i with
  | create host port univ => simp only [okWrites, State.newSender_eq]
  | configure host port univ => rfl
  | setUniverse univ => rfl
  | send frame => rfl
  | close => rfl
  | encode seq phys univ frame => rfl

@[simp] theorem okWrites_refusalMark (i : Instr) (s : State) : (okWrites i s).refusalMark = s.refusalMark := by
  rw [okWrites_eq]

@[simp] theorem okWrites_responses (i : Instr) (s : State) : (okWrites i s).responses = s.responses := by
  rw [okWrites_eq]

/-- Only SEND's completion writes the history, and it adds one event at the end. -/
theorem okWrites_history (i : Instr) (s : State) :
    (okWrites i s).history = s.history ∨ ∃ frame, i = .send frame ∧
      (okWrites i s).history = s.history ++ [sendEvent s frame] := by
  cases i with
  | create host port univ => exact .inl (by simp only [okWrites, State.newSender_eq])
  | configure host port univ => exact .inl rfl
  | setUniverse univ => exact .inl rfl
  | send frame => exact .inr ⟨frame, rfl, rfl⟩
  | close => exact .inl rfl
  | encode seq phys univ frame => exact .inl rfl

/-- What any command can answer: a refusal by the gate, a response alone, or its writes with a response. -/
theorem exec_cases (i : Instr) (s : State) :
    (gated i = true ∧ s.life = .absent ∧ exec i s = .next s.markRefused) ∨
      (∃ r, exec i s = .next (s.respond r)) ∨
      (∃ r, (gated i = true → s.life = .opened) ∧ exec i s = .next ((okWrites i s).respond r)) := by
  cases i with
  | create host port univ =>
    obtain ⟨-, h⟩ | ⟨-, -, h⟩ | ⟨-, -, h⟩ := execCreate_cases host port univ s
    · exact .inr (.inl ⟨_, h⟩)
    · exact .inr (.inl ⟨_, h⟩)
    · exact .inr (.inr ⟨_, nofun, h⟩)
  | configure host port univ =>
    obtain ⟨hl, h⟩ | ⟨-, h⟩ | ⟨-, -, h⟩ | ⟨hl, -, h⟩ := execConfigure_cases host port univ s
    · exact .inl ⟨rfl, hl, h⟩
    · exact .inr (.inl ⟨_, h⟩)
    · exact .inr (.inl ⟨_, h⟩)
    · exact .inr (.inr ⟨_, fun _ => hl, h⟩)
  | setUniverse univ =>
    obtain ⟨hl, h⟩ | ⟨-, h⟩ | ⟨-, -, h⟩ | ⟨hl, -, h⟩ := execSetUniverse_cases univ s
    · exact .inl ⟨rfl, hl, h⟩
    · exact .inr (.inl ⟨_, h⟩)
    · exact .inr (.inl ⟨_, h⟩)
    · exact .inr (.inr ⟨_, fun _ => hl, h⟩)
  | send frame =>
    obtain ⟨hl, h⟩ | ⟨-, h⟩ | ⟨-, -, h⟩ | ⟨-, -, -, h⟩ | ⟨hl, -, -, h⟩ := execSend_cases frame s
    · exact .inl ⟨rfl, hl, h⟩
    · exact .inr (.inl ⟨_, h⟩)
    · exact .inr (.inl ⟨_, h⟩)
    · exact .inr (.inl ⟨_, h⟩)
    · exact .inr (.inr ⟨_, fun _ => hl, h⟩)
  | close =>
    obtain ⟨hl, h⟩ | ⟨-, h⟩ | ⟨hl, h⟩ := execClose_cases s
    · exact .inl ⟨rfl, hl, h⟩
    · exact .inr (.inl ⟨_, h⟩)
    · exact .inr (.inr ⟨_, fun _ => hl, h⟩)
  | encode seq phys univ frame =>
    obtain ⟨-, h⟩ | ⟨-, h⟩ := execEncode_cases seq phys univ frame s
    · exact .inr (.inl ⟨_, h⟩)
    · exact .inr (.inr ⟨_, nofun, h⟩)

/-- The states a command can lead to. -/
theorem eq_of_exec_next {i : Instr} {s t : State} (h : exec i s = .next t) :
    (gated i = true ∧ s.life = .absent ∧ t = s.markRefused) ∨
      (∃ r, t = s.respond r) ∨
      (∃ r, (gated i = true → s.life = .opened) ∧ t = (okWrites i s).respond r) := by
  obtain ⟨hg, hl, hx⟩ | ⟨r, hx⟩ | ⟨r, hl, hx⟩ := exec_cases i s <;> rw [hx] at h <;> cases h
  · exact .inl ⟨hg, hl, rfl⟩
  · exact .inr (.inl ⟨r, rfl⟩)
  · exact .inr (.inr ⟨r, hl, rfl⟩)

/-- No command stops the machine. -/
theorem exec_goes_on (i : Instr) (s : State) : ∃ t, exec i s = .next t := by
  obtain ⟨-, -, h⟩ | ⟨r, h⟩ | ⟨r, -, h⟩ := exec_cases i s <;> exact ⟨_, h⟩

/-- No presented request stops the machine, whether its word decodes or not. -/
theorem runRequest_goes_on (r : Request) (s : State) : ∃ t, runRequest r s = .next t := by
  cases hd : decode r.command with
  | error e => exact ⟨_, runRequest_error hd s⟩
  | ok i => rw [runRequest_ok hd]; exact exec_goes_on i _

/-- Settles O45: a refusal and a bare response keep `life`, and of the completions only those of CREATE and CLOSE write
it; CLOSE's needs an open sender. -/
theorem lifecycleTransitions : Obligations.LifecycleTransitions := by
  intro i s t h hne
  obtain ⟨-, -, rfl⟩ | ⟨r, rfl⟩ | ⟨r, hopen, rfl⟩ := eq_of_exec_next h
  · exact absurd (State.markRefused_life s) hne
  · exact absurd (State.respond_life s r) hne
  · rw [State.respond_life] at hne ⊢
    cases i with
    | create host port univ => exact .inl ⟨rfl, host, port, univ, rfl⟩
    | close => exact .inr ⟨hopen rfl, rfl, rfl⟩
    | configure host port univ => exact absurd rfl hne
    | setUniverse univ => exact absurd rfl hne
    | send frame => exact absurd rfl hne
    | encode seq phys univ frame => exact absurd rfl hne

end Sys2Proof.Machine
end

section
/-! What no command touches (10_state.md R32, R33), and what only grows: the observation of a run (R28, R76, R145). -/

namespace Sys2Proof.Machine

/-- The fields that no command writes: the inputs of a step and the two hardwired registers. -/
structure State.SameInputs (s t : State) : Prop where
  params : t.params = s.params
  answer : t.answer = s.answer
  callers : t.callers = s.callers
  schedule : t.schedule = s.schedule
  seq : t.seq = s.seq
  phys : t.phys = s.phys

/-- The observation has grown at its end only, and a set mark has stayed. -/
structure State.Grows (s t : State) : Prop where
  history : s.history <+: t.history
  responses : s.responses <+: t.responses
  mark : s.refusalMark = true → t.refusalMark = true

theorem State.Grows.refl (s : State) : s.Grows s := ⟨List.prefix_rfl, List.prefix_rfl, id⟩

theorem State.Grows.trans {s t u : State} (hst : s.Grows t) (htu : t.Grows u) : s.Grows u :=
  ⟨hst.history.trans htu.history, hst.responses.trans htu.responses, htu.mark ∘ hst.mark⟩

theorem State.grows_markRefused (s : State) : s.Grows s.markRefused :=
  ⟨List.prefix_rfl, List.prefix_rfl, fun _ => rfl⟩

theorem State.grows_respond (s : State) (r : Response) : s.Grows (s.respond r) :=
  ⟨List.prefix_rfl, List.prefix_append _ _, id⟩

theorem grows_okWrites (i : Instr) (s : State) : s.Grows (okWrites i s) where
  history := by
    obtain h | ⟨frame, -, h⟩ := okWrites_history i s <;> rw [h]
    exact List.prefix_append _ _
  responses := by rw [okWrites_responses]
  mark := by rw [okWrites_refusalMark]; exact id

theorem exec_grows {i : Instr} {s t : State} (h : exec i s = .next t) : s.Grows t := by
  obtain ⟨-, -, rfl⟩ | ⟨r, rfl⟩ | ⟨r, -, rfl⟩ := eq_of_exec_next h
  · exact s.grows_markRefused
  · exact s.grows_respond r
  · exact (grows_okWrites i s).trans (State.grows_respond _ r)

theorem exec_sameInputs {i : Instr} {s t : State} (h : exec i s = .next t) : s.SameInputs t := by
  obtain ⟨-, -, rfl⟩ | ⟨r, rfl⟩ | ⟨r, -, rfl⟩ := eq_of_exec_next h
  · exact ⟨rfl, rfl, rfl, rfl, rfl, rfl⟩
  · exact ⟨rfl, rfl, rfl, rfl, rfl, rfl⟩
  · rw [okWrites_eq]
    exact ⟨rfl, rfl, rfl, rfl, rfl, rfl⟩

/-- The mark changes only where a gated command finds no sender (R111, R145). -/
theorem exec_refusalMark {i : Instr} {s t : State} (h : exec i s = .next t)
    (hrun : gated i = false ∨ s.life ≠ .absent) : t.refusalMark = s.refusalMark := by
  obtain ⟨hgated, habsent, rfl⟩ | ⟨r, rfl⟩ | ⟨r, -, rfl⟩ := eq_of_exec_next h
  · rcases hrun with hg | hl
    · rw [hg] at hgated; cases hgated
    · exact absurd habsent hl
  · rfl
  · rw [State.respond_refusalMark, okWrites_refusalMark]

/-- Unless a command completes with its writes, every register and the history are as they were. -/
theorem exec_registers {i : Instr} {s t : State} (h : exec i s = .next t) :
    (t.life = s.life ∧ t.host = s.host ∧ t.port = s.port ∧ t.univ = s.univ ∧ t.xport = s.xport ∧
        t.history = s.history) ∨ ∃ r, t = (okWrites i s).respond r := by
  obtain ⟨-, -, rfl⟩ | ⟨r, rfl⟩ | ⟨r, -, rfl⟩ := eq_of_exec_next h
  · exact .inl ⟨rfl, rfl, rfl, rfl, rfl, rfl⟩
  · exact .inl ⟨rfl, rfl, rfl, rfl, rfl, rfl⟩
  · exact .inr ⟨r, rfl⟩

/-- Settles O44: the inputs, the growth and the mark are the same for every command; the registers are kept where the
command made no write, and where it completed its own writes (`okWrites`) leave the others. -/
theorem frameOfEveryCommand : Obligations.FrameOfEveryCommand := by
  intro i s t h
  obtain ⟨hparams, hanswer, hcallers, hschedule, hseq, hphys⟩ := exec_sameInputs h
  obtain ⟨hhistory, hresponses, hmark⟩ := exec_grows h
  refine ⟨hparams, hanswer, hcallers, hschedule, hseq, hphys, hhistory, hresponses,
    fun hl => exec_refusalMark h (.inr hl), hmark, ?_⟩
  obtain ⟨hlife, hhost, hport, huniv, hxport, hhist⟩ | ⟨r, ht⟩ := exec_registers h
  · cases i with
    | create host port univ => exact ⟨hhist, exec_refusalMark h (.inl rfl)⟩
    | configure host port univ =>
      exact ⟨hlife, hxport, hhist, fun _ => hhost, fun _ => hport, fun _ => huniv⟩
    | setUniverse univ => exact ⟨hlife, hxport, hhist, hhost, hport⟩
    | send frame => exact ⟨hlife, hxport, hhost, hport, huniv, .inl hhist⟩
    | close => exact ⟨hhost, hport, huniv, hhist⟩
    | encode seq phys univ frame =>
      exact ⟨hlife, hxport, hhist, hhost, hport, huniv, exec_refusalMark h (.inl rfl)⟩
  · have hquiet := exec_refusalMark h
    subst ht
    cases i with
    | create host port univ => exact ⟨by simp [okWrites, State.newSender_eq], hquiet (.inl rfl)⟩
    | configure host port univ => simp +contextual [okWrites, State.reconfigured_eq]
    | setUniverse univ => simp [okWrites]
    | send frame => simp [okWrites]
    | close => simp [okWrites, State.closeSender_eq]
    | encode seq phys univ frame => simp [okWrites]

/-- A turn and the draw of an answer are not observed. -/
theorem grows_takeTurn (s : State) : s.Grows (takeTurn s) := by
  rw [takeTurn_eq]
  exact ⟨List.prefix_rfl, List.prefix_rfl, id⟩

theorem step_grows {s t : State} (h : step s = .next t) : s.Grows t := by
  refine (grows_takeTurn s).trans ?_
  obtain ⟨-, hs⟩ | ⟨r, e, -, -, hs⟩ | ⟨r, i, -, -, hs⟩ := step_cases s <;> rw [hs] at h
  · cases h
    exact .refl _
  · cases h
    exact State.grows_markRefused _
  · obtain ⟨hhistory, hresponses, hmark⟩ := exec_grows h
    exact ⟨hhistory, hresponses, hmark⟩

/-- Settles O46: "has grown from `s`" is kept by every step, so it holds at the end of every run from `s`. -/
theorem historyOnlyGrowsAndTheMarkStays : Obligations.HistoryOnlyGrowsAndTheMarkStays := by
  intro n s t h
  obtain ⟨hhistory, hresponses, hmark⟩ : s.Grows t :=
    run_induction (fun u v hu hstep => hu.trans (step_grows hstep)) n s t (.refl s) h
  exact ⟨hhistory, hresponses, hmark⟩

end Sys2Proof.Machine
end

section
/-! The queues and the schedule are inputs of the step alone (log 2): a command does the same whatever they hold. So a
program that one caller presents runs as the list of its commands (10_state.md R29, 70_reset_and_hazards.md R181). -/

namespace Sys2Proof.Machine

/-- The state with other outstanding commands and other turns. -/
def State.withQueues (s : State) (callers : List (List Request)) (schedule : List Nat) : State :=
  { s with callers := callers, schedule := schedule }

/-- An outcome with other queues in its next state, if there is one. -/
def requeue (callers : List (List Request)) (schedule : List Nat) :
    Host.Outcome State Fault Refusal → Host.Outcome State Fault Refusal
  | .next s => .next (s.withQueues callers schedule)
  | .fault r => .fault r
  | .refused r => .refused r

section
variable (s : State) (cs : List (List Request)) (sch : List Nat)

theorem gate_withQueues (o : Host.Outcome State Fault Refusal) :
    gate (s.withQueues cs sch) (requeue cs sch o) = requeue cs sch (gate s o) := by
  have hlife : (s.withQueues cs sch).life = s.life := rfl
  cases hl : s.life with
  | absent => rw [gate_absent hl, gate_absent (hlife.trans hl)]; rfl
  | opened => rw [gate_opened hl, gate_opened (hlife.trans hl)]
  | closed => rw [gate_closed hl, gate_closed (hlife.trans hl)]; rfl

theorem newSender_withQueues (host : Option HostName) (port : Option Half) (univ : Option Int) :
    (s.withQueues cs sch).newSender host port univ = (s.newSender host port univ).withQueues cs sch := by
  simp only [State.newSender_eq, State.withQueues]

theorem execCreate_withQueues (host : Option HostName) (port : Option Half) (univ : Option Int) :
    execCreate host port univ (s.withQueues cs sch) = requeue cs sch (execCreate host port univ s) := by
  have hdraw : acquire (s.withQueues cs sch) = acquire s := rfl
  unfold execCreate
  rw [apply_ite (requeue cs sch), hdraw, newSender_withQueues]
  cases acquire s <;> rfl

theorem execConfigure_withQueues (host : Option HostName) (port : Option Half) (univ : Option Int) :
    execConfigure host port univ (s.withQueues cs sch) = requeue cs sch (execConfigure host port univ s) := by
  unfold execConfigure
  rw [← gate_withQueues, apply_ite (requeue cs sch)]
  rfl

theorem execSetUniverse_withQueues (univ : Int) :
    execSetUniverse univ (s.withQueues cs sch) = requeue cs sch (execSetUniverse univ s) := by
  unfold execSetUniverse
  rw [← gate_withQueues, apply_ite (requeue cs sch)]
  rfl

theorem execSend_withQueues (frame : Frame) :
    execSend frame (s.withQueues cs sch) = requeue cs sch (execSend frame s) := by
  have hsubmit : submit (s.withQueues cs sch) (sendEvent (s.withQueues cs sch) frame) =
    submit s (sendEvent s frame) := rfl
  unfold execSend
  rw [← gate_withQueues, apply_ite (requeue cs sch), hsubmit]
  cases submit s (sendEvent s frame) <;> rfl

theorem execClose_withQueues : execClose (s.withQueues cs sch) = requeue cs sch (execClose s) := by
  unfold execClose
  rw [← gate_withQueues]
  rfl

theorem execEncode_withQueues (seq phys : Byte) (univ : Half) (frame : Frame) :
    execEncode seq phys univ frame (s.withQueues cs sch) = requeue cs sch (execEncode seq phys univ frame s) := by
  unfold execEncode
  rw [apply_ite (requeue cs sch)]
  rfl

/-- No meaning of a command reads the queues or writes them. -/
theorem exec_withQueues (i : Instr) : exec i (s.withQueues cs sch) = requeue cs sch (exec i s) := by
  cases i with
  | create host port univ => exact execCreate_withQueues s cs sch host port univ
  | configure host port univ => exact execConfigure_withQueues s cs sch host port univ
  | setUniverse univ => exact execSetUniverse_withQueues s cs sch univ
  | send frame => exact execSend_withQueues s cs sch frame
  | close => exact execClose_withQueues s cs sch
  | encode seq phys univ frame => exact execEncode_withQueues s cs sch seq phys univ frame

theorem runRequest_withQueues (r : Request) :
    runRequest r (s.withQueues cs sch) = requeue cs sch (runRequest r s) := by
  cases hd : decode r.command with
  | error e => rw [runRequest_error hd, runRequest_error hd]; rfl
  | ok i => rw [runRequest_ok hd, runRequest_ok hd, ← exec_withQueues]; rfl

end

/-- A list of commands whose first goes on. -/
theorem runAll_cons {r : Request} {rs : List Request} {s t : State} (h : runRequest r s = .next t) :
    runAll (r :: rs) s = runAll rs t := by
  simp [runAll, h]

/-- A program's first step presents its first command, with the rest of the program outstanding. -/
theorem step_withProgram (s : State) (r : Request) (rs : List Request) :
    step (s.withProgram (r :: rs)) = runRequest r (s.withProgram rs) :=
  step_of_turn (s := s.withProgram (r :: rs)) (c := 0) (cs := List.replicate rs.length 0) rfl rfl

/-- Settles O11, by induction on the program: its first command leads to the same state whether the rest of the program
is outstanding or nothing is, and the rest runs from there. -/
theorem programRunsInListOrder : Obligations.ProgramRunsInListOrder := by
  intro s rs
  induction rs generalizing s with
  | nil => rfl
  | cons r rs ih =>
    obtain ⟨t, ht⟩ := runRequest_goes_on r s
    have hqueues (callers : List (List Request)) (schedule : List Nat) :
        runRequest r (s.withQueues callers schedule) = .next (t.withQueues callers schedule) := by
      rw [runRequest_withQueues, ht, requeue]
    have hstep : step (s.withProgram (r :: rs)) = .next (t.withProgram rs) :=
      (step_withProgram s r rs).trans (hqueues [rs] (List.replicate rs.length 0))
    have hlist : runAll (r :: rs) (s.withQueues [[]] []) = runAll rs (t.withQueues [[]] []) :=
      runAll_cons (hqueues [[]] [])
    exact (run_step hstep).trans ((ih t).trans hlist.symm)

end Sys2Proof.Machine
end

section
/-! Callers and their turns (20_memory.md R51): a step takes the first command of the caller whose turn it is and no other.
So every interleaving that keeps each caller's own order is a run. -/

namespace Sys2Proof.Machine

/-- A turn takes the first command of its caller and leaves every other caller's commands. -/
theorem outstanding_takeTurn {s : State} {c : Nat} {cs : List Nat} (h : s.schedule = c :: cs) (d : Nat) :
    (takeTurn s).outstanding d = if d = c then (s.outstanding c).tail else s.outstanding d := by
  rw [takeTurn_cons h]
  simp only [State.outstanding, List.getD_eq_getElem?_getD, List.getElem?_set]
  by_cases hd : d = c
  · subst hd
    by_cases hlen : d < s.callers.length <;> simp [hlen]
  · simp [hd, Ne.symm hd]

theorem schedule_takeTurn {s : State} {c : Nat} {cs : List Nat} (h : s.schedule = c :: cs) :
    (takeTurn s).schedule = cs := by
  rw [takeTurn_cons h]

/-- Presenting a request writes no queue: what is outstanding and the turns left are inputs of the step. -/
theorem runRequest_queues {r : Request} {s t : State} (h : runRequest r s = .next t) :
    t.callers = s.callers ∧ t.schedule = s.schedule := by
  cases hd : decode r.command with
  | error e =>
    rw [runRequest_error hd] at h
    cases h
    exact ⟨rfl, rfl⟩
  | ok i =>
    rw [runRequest_ok hd] at h
    obtain ⟨-, -, hcallers, hschedule, -, -⟩ := exec_sameInputs h
    exact ⟨hcallers, hschedule⟩

/-- Of the queues a step changes only what its turn takes. -/
theorem step_queues {s t : State} (h : step s = .next t) :
    t.callers = (takeTurn s).callers ∧ t.schedule = (takeTurn s).schedule := by
  cases hn : nextRequest s with
  | none =>
    rw [step, hn] at h
    cases h
    exact ⟨rfl, rfl⟩
  | some r => exact runRequest_queues (step_of_nextRequest hn ▸ h)

theorem outstanding_congr {s t : State} (h : t.callers = s.callers) (c : Nat) : t.outstanding c = s.outstanding c := by
  rw [State.outstanding, h, State.outstanding]

/-- Settles O9: the step leaves the queues that its turn leaves. -/
theorem eachCallerKeepsItsOrder : Obligations.EachCallerKeepsItsOrder := by
  intro s t c cs hsched hstep
  obtain ⟨hcallers, hschedule⟩ := step_queues hstep
  have hout (d : Nat) : t.outstanding d = if d = c then (s.outstanding c).tail else s.outstanding d :=
    (outstanding_congr hcallers d).trans (outstanding_takeTurn hsched d)
  exact ⟨hschedule.trans (schedule_takeTurn hsched), (hout c).trans (if_pos rfl),
    fun d hd => (hout d).trans (if_neg hd)⟩

/-- The turns of `s` are the callers of `order`, and `order` holds each caller's outstanding commands in that caller's
order. -/
structure State.Interleaves (s : State) (order : List (Nat × Request)) : Prop where
  turns : s.schedule = order.map Prod.fst
  queue : ∀ c, (order.filter (fun p => p.1 == c)).map Prod.snd = s.outstanding c

/-- The state with nothing outstanding and no turn scheduled. -/
def State.drained (s : State) : State := s.withQueues (s.callers.map fun _ => []) []

theorem State.Interleaves.of_queues {s t : State} {order : List (Nat × Request)} (h : s.Interleaves order)
    (hcallers : t.callers = s.callers) (hschedule : t.schedule = s.schedule) : t.Interleaves order where
  turns := hschedule.trans h.turns
  queue c := (h.queue c).trans (outstanding_congr hcallers c).symm

section
variable {s : State} {c : Nat} {r : Request} {order : List (Nat × Request)}

theorem State.Interleaves.outstanding_cons (h : s.Interleaves ((c, r) :: order)) :
    s.outstanding c = r :: (order.filter (fun p => p.1 == c)).map Prod.snd := by
  rw [← h.queue c]
  simp

theorem State.Interleaves.nextRequest (h : s.Interleaves ((c, r) :: order)) : nextRequest s = some r := by
  rw [nextRequest_cons h.turns, h.outstanding_cons, List.head?_cons]

/-- The turn of the first command of an interleaving leaves an interleaving of the rest. -/
theorem State.Interleaves.takeTurn (h : s.Interleaves ((c, r) :: order)) : (takeTurn s).Interleaves order where
  turns := schedule_takeTurn h.turns
  queue d := by
    rw [outstanding_takeTurn h.turns]
    by_cases hd : d = c
    · rw [if_pos hd, h.outstanding_cons, List.tail_cons, hd]
    · rw [if_neg hd, ← h.queue d]
      simp [Ne.symm hd]

end

/-- Nothing is outstanding and no turn is left once every command of the interleaving has been taken. -/
theorem State.Interleaves.drained_eq {s : State} (h : s.Interleaves []) : s.drained = s := by
  have hempty : ∀ q ∈ s.callers, [] = q := fun q hq => by
    obtain ⟨c, hc⟩ := List.mem_iff_getElem?.mp hq
    exact (h.queue c).trans (outstanding_of_getElem? hc)
  have hcallers : s.callers.map (fun _ => []) = s.callers := (List.map_congr_left hempty).trans (List.map_id _)
  have hschedule : s.schedule = [] := h.turns
  rw [State.drained, hcallers, ← hschedule, State.withQueues]

theorem drained_takeTurn (s : State) : (takeTurn s).drained = s.drained := by
  cases hs : s.schedule with
  | nil => rw [takeTurn_nil hs]
  | cons c cs => simp [takeTurn_cons hs, State.drained, State.withQueues, List.map_const']

/-- A request does to the drained state what it does to the state itself. -/
theorem runRequest_drained {r : Request} {s t : State} (h : runRequest r s = .next t) :
    runRequest r s.drained = .next t.drained := by
  rw [State.drained, runRequest_withQueues, h, State.drained, (runRequest_queues h).1]
  rfl

/-- The machine takes an interleaving's commands in its order, one command a step. -/
theorem State.Interleaves.run_eq {s : State} {order : List (Nat × Request)} (h : s.Interleaves order) :
    core.run order.length s = runAll (order.map Prod.snd) s.drained := by
  induction order generalizing s with
  | nil => rw [h.drained_eq]; rfl
  | cons p order ih =>
    obtain ⟨c, r⟩ := p
    obtain ⟨t, ht⟩ := runRequest_goes_on r (Machine.takeTurn s)
    obtain ⟨hcallers, hschedule⟩ := runRequest_queues ht
    have hrest : t.Interleaves order := h.takeTurn.of_queues hcallers hschedule
    have hdrained : runRequest r s.drained = .next t.drained := drained_takeTurn s ▸ runRequest_drained ht
    exact (run_step ((step_of_nextRequest h.nextRequest).trans ht)).trans
      ((ih hrest).trans (runAll_cons hdrained).symm)

/-- Settles O10: the machine with the turns of `order` interleaves it. -/
theorem everyInterleavingIsAnExecution : Obligations.EveryInterleavingIsAnExecution :=
  fun s order hqueue =>
    State.Interleaves.run_eq (s := { s with schedule := order.map Prod.fst }) ⟨rfl, hqueue⟩

end Sys2Proof.Machine
end

section
/-! The offsets of the packet buffer (20_memory.md R42): the writes of 40_encoder.md R92 come in offset order, so each
one adds the next offset. -/

namespace Sys2Proof.Machine

/-- Where the offsets below `k` have been written, a write at `k` adds that offset. -/
theorem offsets_memWrite {p : Pkt} {k : Nat} (h : p.map Prod.fst = List.range k) (v : Byte) :
    (memWrite p k v).map Prod.fst = List.range (k + 1) := by
  have hlt : ∀ c ∈ p, c.1 < k := fun c hc => List.mem_range.mp (h ▸ List.mem_map_of_mem hc)
  rw [memWrite_append hlt, List.map_append, h, List.range_succ]
  rfl

/-- The fixed part fills the offsets below the data section. -/
theorem offsets_writeFixed (seq phys : Byte) (u : Half) (len : Nat) :
    (writeFixed seq phys u len).map Prod.fst = List.range Config.fixedLen := rfl

/-- Copying the rest of a frame fills the offsets up to the end of the data section. -/
theorem offsets_copyFrame (f : Frame) (n i : Nat) (p : Pkt) (hn : i + n = f.length)
    (hp : p.map Prod.fst = List.range (Config.fixedLen + i)) :
    (copyFrame f n i p).map Prod.fst = List.range (Config.fixedLen + f.length) := by
  induction n generalizing i p with
  | zero => rw [copyFrame, hp, ← hn, Nat.add_zero]
  | succ n ih =>
    have hread : memRead f i = some f[i] := List.getElem?_eq_getElem (by omega)
    simp only [copyFrame, hread]
    exact ih (i + 1) _ (by omega) (offsets_memWrite hp _)

/-- Settles O14: the fixed part fills the offsets 0 to 17, and the frame's bytes follow. -/
theorem packetBufferOffsetsAreZeroToLast : Obligations.PacketBufferOffsetsAreZeroToLast :=
  fun seq phys u f =>
    offsets_copyFrame f f.length 0 _ (Nat.zero_add _) (offsets_writeFixed seq phys u f.length)

end Sys2Proof.Machine
end

section
/-! SEND repeated (20_memory.md R48): it writes the history and the responses alone, so the next SEND of the same frame
finds the same registers and makes the same event again. -/

namespace Sys2Proof.Machine

/-- A SEND of a valid frame on an open sender whose transport answers OK appends its event and responds OK (R115). -/
theorem execSend_completes {f : Frame} {s : State} (hlife : s.life = .opened) (hxport : s.xport = .held)
    (hframe : validFrame f = true) (hanswer : s.answer = .ok) :
    exec (.send f) s = .next ((s.appendEvent (sendEvent s f)).respond { status := .ok, data := [] }) := by
  have hsubmit : submit s (sendEvent s f) = .ok := (submit_held hxport _).trans hanswer
  show execSend f s = _
  rw [execSend, gate_opened hlife, if_pos hframe, hsubmit]
  rfl

/-- Settles O37: the first SEND leaves every premise of the second, and every register its event is made from. -/
theorem twoSendsMakeTwoEvents : Obligations.TwoSendsMakeTwoEvents := by
  intro f s hlife hxport hframe hanswer
  refine ⟨_, _, sendEvent s f, execSend_completes hlife hxport hframe hanswer,
    execSend_completes (by simpa) (by simpa) hframe (by simpa), ?_⟩
  have hsame (e : Event) (r : Response) : sendEvent ((s.appendEvent e).respond r) f = sendEvent s f := rfl
  simp [hsame]

end Sys2Proof.Machine
end

section
/-! The senders of a platform (20_memory.md R58): a step of one replaces that one, so steps of two commute. -/

namespace Sys2Proof.Machine

/-- The state a step leads to; every step goes on (`step_eq_afterStep`). -/
def afterStep (s : State) : State :=
  match step s with
  | .next t => t
  | .fault _ => s
  | .refused _ => s

theorem step_goes_on (s : State) : ∃ t, step s = .next t := by
  cases hn : nextRequest s with
  | none => exact ⟨takeTurn s, by rw [step, hn]⟩
  | some r => rw [step_of_nextRequest hn]; exact runRequest_goes_on r _

theorem step_eq_afterStep (s : State) : step s = .next (afterStep s) := by
  obtain ⟨t, ht⟩ := step_goes_on s
  rw [afterStep, ht]

/-- The platform with sender `k`, if there is one, a step further. -/
def Platform.advance (p : Platform) (k : Nat) : Platform := { senders := p.senders.modify k afterStep }

/-- A step of sender `k` changes the list of senders at place `k` alone. -/
theorem stepSender_eq (k : Nat) (p : Platform) : stepSender k p = .next (p.advance k) := by
  cases hk : p.senders[k]? with
  | none =>
    have hlen : p.senders.length ≤ k := List.getElem?_eq_none_iff.mp hk
    simp [stepSender, hk, Platform.advance, List.modify_eq_self hlen]
  | some s => simp [stepSender, hk, Platform.advance, List.modify_eq_set_getElem?, step_eq_afterStep]

theorem advance_getElem?_ne {j k : Nat} (h : j ≠ k) (p : Platform) :
    (p.advance j).senders[k]? = p.senders[k]? := by
  simp [Platform.advance, h]

theorem advance_comm {j k : Nat} (h : j ≠ k) (p : Platform) :
    (p.advance j).advance k = (p.advance k).advance j := by
  simp only [Platform.advance, List.modify_modify_ne _ _ _ h]

/-- Settles O54: both orders advance the same two senders. -/
theorem instancesShareNothing : Obligations.InstancesShareNothing := by
  intro j k p p1 p2 hjk hj hk
  rw [stepSender_eq] at hj hk
  cases hj
  cases hk
  exact ⟨advance_getElem?_ne hjk p, p.advance k, stepSender_eq k p, by rw [stepSender_eq, advance_comm hjk]⟩

end Sys2Proof.Machine
end

section
/-! The command word against its fields (30_encoding.md R71, R75): a word is the word of its fields, and the clauses of
R75, which WellFormed.lean reads with division and remainder, are clauses about the fields that the decoder reads. -/

namespace Sys2Proof

@[simp] theorem optionalLane_isSome {α : Type} (present : Bool) (lane : α) :
    (optionalLane present lane).isSome = present := by
  cases present <;> rfl

/-- One of the three presence bits is set. -/
def anyPresence (w : Byte) : Bool := hostBit w || portBit w || univBit w

theorem anyPresence_eq_false_iff (w : Byte) :
    anyPresence w = false ↔ hostBit w = false ∧ portBit w = false ∧ univBit w = false := by
  simp [anyPresence, and_assoc]

theorem plainCommand_eq (w : Byte) (i : Instr) :
    plainCommand w i = if anyPresence w then .error .strayPresence else .ok i := rfl

/-- A word with its reserved bits clear is the word of its fields. -/
theorem makeWord_fields : ∀ w : Byte, reservedField w = 0#2 →
    makeWord (univBit w) (portBit w) (hostBit w) (opField w) = w := by
  decide

theorem reservedBitsClear_eq : ∀ w : Byte, Command.reservedBitsClear w = decide (reservedField w = 0#2) := by
  decide

theorem opDefined_eq : ∀ w : Byte, Command.opDefined w = (opField w != 0#3 && opField w != 7#3) := by
  decide

theorem presenceAllowed_eq : ∀ w : Byte,
    Command.presenceAllowed w = (opField w == 1#3 || opField w == 2#3 || !anyPresence w) := by
  decide

/-- The eight operations a word can name. -/
theorem op_cases : ∀ op : BitVec 3,
    op = 0#3 ∨ op = 1#3 ∨ op = 2#3 ∨ op = 3#3 ∨ op = 4#3 ∨ op = 5#3 ∨ op = 6#3 ∨ op = 7#3 := by
  decide

end Sys2Proof
end

section
/-! What the decoder answers (30_encoding.md R73, R75): it goes through the clauses of R75 in order, and what none of
them reserves is a command that has this word. -/

namespace Sys2Proof

/-- The answers R75 and R73 leave open for a presented command. -/
inductive Verdict (c : Command) : Except DecodeError Instr → Prop where
  | reservedBits (hbits : Command.reservedBitsClear c.word = false) : Verdict c (.error .reservedBits)
  | reservedOp (hbits : Command.reservedBitsClear c.word = true) (hop : Command.opDefined c.word = false) :
      Verdict c (.error .reservedOp)
  | strayPresence (hbits : Command.reservedBitsClear c.word = true) (hop : Command.opDefined c.word = true)
      (hpresence : Command.presenceAllowed c.word = false) : Verdict c (.error .strayPresence)
  | command (hbits : Command.reservedBitsClear c.word = true) (hop : Command.opDefined c.word = true)
      (hpresence : Command.presenceAllowed c.word = true) {i : Instr} (hword : (encode i).word = c.word) :
      Verdict c (.ok i)

section
variable {c : Command} (hbits : reservedField c.word = 0#2)
include hbits

/-- An operation with optional operands: the word that presents the command has the presence bits that were read. -/
theorem verdict_optional {i : Instr} (hop : opField c.word = 1#3 ∨ opField c.word = 2#3)
    (hword : (encode i).word = makeWord (univBit c.word) (portBit c.word) (hostBit c.word) (opField c.word)) :
    Verdict c (.ok i) := by
  rw [makeWord_fields _ hbits] at hword
  refine .command ?_ ?_ ?_ hword
  · simp [reservedBitsClear_eq, hbits]
  · rcases hop with hop | hop <;> simp [opDefined_eq, hop]
  · rcases hop with hop | hop <;> simp [presenceAllowed_eq, hop]

/-- An operation without optional operands: a presence bit is stray, and with none the word is the one that presents the
command. -/
theorem verdict_plainCommand {i : Instr}
    (hop : opField c.word ≠ 0#3 ∧ opField c.word ≠ 1#3 ∧ opField c.word ≠ 2#3 ∧ opField c.word ≠ 7#3)
    (hword : (encode i).word = makeWord false false false (opField c.word)) :
    Verdict c (plainCommand c.word i) := by
  obtain ⟨h0, h1, h2, h7⟩ := hop
  have hclear : Command.reservedBitsClear c.word = true := by simp [reservedBitsClear_eq, hbits]
  have hdefined : Command.opDefined c.word = true := by simp [opDefined_eq, h0, h7]
  have hallowed : Command.presenceAllowed c.word = !anyPresence c.word := by simp [presenceAllowed_eq, h1, h2]
  rw [plainCommand_eq]
  cases hp : anyPresence c.word with
  | true => exact .strayPresence hclear hdefined (by rw [hallowed, hp]; rfl)
  | false =>
    obtain ⟨hhost, hport, huniv⟩ := (anyPresence_eq_false_iff _).mp hp
    have hfields := makeWord_fields _ hbits
    rw [hhost, hport, huniv] at hfields
    exact .command hclear hdefined (by rw [hallowed, hp]; rfl) (hword.trans hfields)

/-- An operation that R75 reserves. -/
theorem verdict_reservedOp (hop : opField c.word = 0#3 ∨ opField c.word = 7#3) :
    Verdict c (.error .reservedOp) := by
  refine .reservedOp (by simp [reservedBitsClear_eq, hbits]) ?_
  rcases hop with hop | hop <;> simp [opDefined_eq, hop]

end

theorem decode_verdict (c : Command) : Verdict c (decode c) := by
  unfold decode
  dsimp only
  split
  case isFalse hbits => exact .reservedBits (by simp [reservedBitsClear_eq, hbits])
  case isTrue hbits =>
    rcases op_cases (opField c.word) with hop | hop | hop | hop | hop | hop | hop | hop <;> rw [hop]
    · exact verdict_reservedOp hbits (.inl hop)
    · exact verdict_optional hbits (.inl hop) (by simp [encode, hop])
    · exact verdict_optional hbits (.inr hop) (by simp [encode, hop])
    · exact verdict_plainCommand hbits (by simp [hop]) (by rw [hop]; rfl)
    · exact verdict_plainCommand hbits (by simp [hop]) (by rw [hop]; rfl)
    · exact verdict_plainCommand hbits (by simp [hop]) (by rw [hop]; rfl)
    · exact verdict_plainCommand hbits (by simp [hop]) (by rw [hop]; rfl)
    · exact verdict_reservedOp hbits (.inr hop)

section
variable (u p h : Bool) (o : Operands)

theorem decode_createWord : decode ⟨makeWord u p h 1#3, o⟩ =
    .ok (.create (optionalLane h o.host) (optionalLane p o.port) (optionalLane u o.univ)) := by
  simp [decode]

theorem decode_configureWord : decode ⟨makeWord u p h 2#3, o⟩ =
    .ok (.configure (optionalLane h o.host) (optionalLane p o.port) (optionalLane u o.univ)) := by
  simp [decode]

theorem decode_setUniverseWord : decode ⟨makeWord false false false 3#3, o⟩ = .ok (.setUniverse o.univ) := by
  simp [decode, plainCommand]

theorem decode_sendWord : decode ⟨makeWord false false false 4#3, o⟩ = .ok (.send o.frame) := by
  simp [decode, plainCommand]

theorem decode_closeWord : decode ⟨makeWord false false false 5#3, o⟩ = .ok .close := by
  simp [decode, plainCommand]

theorem decode_encodeWord :
    decode ⟨makeWord false false false 6#3, o⟩ = .ok (.encode o.seq o.phys o.encUniv o.frame) := by
  simp [decode, plainCommand]

end

/-- Settles O1: each row's word decodes to the row's command, and a lane read through its own presence bit gives the
operand back. -/
theorem decodeInvertsEncode : Obligations.DecodeInvertsEncode := by
  intro i
  cases i with
  | create host port univ => simp only [encode, decode_createWord, optionalLane_getD]
  | configure host port univ => simp only [encode, decode_configureWord, optionalLane_getD]
  | setUniverse univ => exact decode_setUniverseWord _
  | send frame => exact decode_sendWord _
  | close => exact decode_closeWord _
  | encode seq phys univ frame => exact decode_encodeWord _

/-- Settles O2: the decoder answers with a command only where its word is the presented one. -/
theorem encodeGivesTheDecodedWordBack : Obligations.EncodeGivesTheDecodedWordBack := by
  intro c i h
  have hverdict := decode_verdict c
  rw [h] at hverdict
  cases hverdict with
  | command _ _ _ hword => exact hword

/-- Settles O3: the four answers exclude each other, and each is the one its clause of R75 asks for. -/
theorem reservedWordsExactly : Obligations.ReservedWordsExactly := by
  intro c
  have hverdict := decode_verdict c
  generalize decode c = answer at hverdict ⊢
  cases hverdict with
  | reservedBits hbits => simp [Command.wordWellFormed, hbits]
  | reservedOp hbits hop => simp [Command.wordWellFormed, hbits, hop]
  | strayPresence hbits hop hpresence => simp [Command.wordWellFormed, hbits, hop, hpresence]
  | command hbits hop hpresence _ => simp [Command.wordWellFormed, hbits, hop, hpresence]

/-- Settles O4: each word is the one its presence bits and its operation make. -/
theorem writtenOutWordsDecode : Obligations.WrittenOutWordsDecode :=
  fun o =>
    ⟨decode_createWord false false false o, decode_createWord true true true o,
      decode_configureWord true false false o, decode_configureWord false false true o,
      decode_configureWord false true false o, decode_setUniverseWord o,
      decode_sendWord o, decode_closeWord o, decode_encodeWord o⟩

end Sys2Proof

namespace Sys2Proof.Machine

/-- Settles O5: the decoder rejects a reserved word (R75), and a rejected request is refused. -/
theorem reservedWordOnlySetsTheMark : Obligations.ReservedWordOnlySetsTheMark := by
  intro r s hreserved
  cases hd : decode r.command with
  | error e => exact runRequest_error hd s
  | ok i =>
    have hwf := (reservedWordsExactly r.command).1.mp ⟨i, hd⟩
    rw [hreserved] at hwf
    cases hwf

end Sys2Proof.Machine
end

section
/-! The bytes of a packet by offset (30_encoding.md R60 to R69), and what a reader recovers from each. -/

namespace Sys2Proof.Machine

theorem and_255_eq_mod (n : Nat) : n &&& 0xFF = n % 256 := Nat.and_two_pow_sub_one_eq_mod n 8

theorem shiftRight_eight_eq_div (n : Nat) : n >>> 8 = n / 256 := Nat.shiftRight_eq_div_pow n 8

theorem lowByte_eq (u : Half) : lowByte u = BitVec.ofNat 8 (u.toNat % 256) := by
  apply BitVec.eq_of_toNat_eq
  simp [lowByte, and_255_eq_mod]

theorem highByte_eq (u : Half) : highByte u = BitVec.ofNat 8 (u.toNat / 256) := by
  apply BitVec.eq_of_toNat_eq
  simp [highByte, and_255_eq_mod, shiftRight_eight_eq_div]

theorem lowByte_toNat (u : Half) : (lowByte u).toNat = u.toNat % 256 := by
  simp [lowByte_eq]

theorem highByte_toNat (u : Half) : (highByte u).toNat = u.toNat / 256 := by
  rw [highByte_eq, BitVec.toNat_ofNat]
  have := u.isLt
  omega

theorem lengthHigh_toNat {len : Nat} (h : len ≤ 65535) : (lengthHigh len).toNat = len / 256 := by
  rw [lengthHigh, BitVec.toNat_ofNat]
  omega

theorem lengthLow_toNat (len : Nat) : (lengthLow len).toNat = len % 256 := by
  simp [lengthLow]

@[simp] theorem header_length : header.length = 12 := rfl

/-- The element of a valid frame is the value of its byte (R68). -/
theorem byteOfInt_toNat {v : Int} (h : 0 ≤ v ∧ v ≤ 255) : ((byteOfInt v).toNat : Int) = v := by
  rw [byteOfInt, BitVec.toNat_ofInt]
  omega

section
variable (seq phys : Byte) (u : Half) (f : Frame)

theorem artdmx_length : (artdmx seq phys u f).length = 18 + f.length := by
  simp only [artdmx_eq, List.length_append, List.length_map, header_length, List.length_cons, List.length_nil]

theorem artdmx_take_header : (artdmx seq phys u f).take 12 = header := by
  rw [artdmx_eq]
  rfl

theorem artdmx_seq : (artdmx seq phys u f)[12]? = some seq := by rw [artdmx_eq]; rfl
theorem artdmx_phys : (artdmx seq phys u f)[13]? = some phys := by rw [artdmx_eq]; rfl
theorem artdmx_univLow : (artdmx seq phys u f)[14]? = some (lowByte u) := by rw [artdmx_eq]; rfl
theorem artdmx_univHigh : (artdmx seq phys u f)[15]? = some (highByte u) := by rw [artdmx_eq]; rfl
theorem artdmx_lengthHigh : (artdmx seq phys u f)[16]? = some (lengthHigh f.length) := by rw [artdmx_eq]; rfl
theorem artdmx_lengthLow : (artdmx seq phys u f)[17]? = some (lengthLow f.length) := by rw [artdmx_eq]; rfl

theorem artdmx_drop_data : (artdmx seq phys u f).drop 18 = f.map byteOfInt := by
  rw [artdmx_eq]
  rfl

theorem artdmx_data (i : Nat) : (artdmx seq phys u f)[18 + i]? = f[i]?.map byteOfInt := by
  rw [← List.getElem?_drop, artdmx_drop_data, List.getElem?_map]

end

/-- Settles O13: the two universe bytes are the table's, and everything else is written the same way. -/
theorem artdmxIsTheWireFormat : Obligations.ArtdmxIsTheWireFormat := by
  intro seq phys u f
  rw [artdmx_eq, lowByte_eq, highByte_eq]
  rfl

/-- Settles O15: the first step of R92 writes the header, and no later step writes below offset 12. -/
theorem everyPacketBeginsWithTheHeader : Obligations.EveryPacketBeginsWithTheHeader :=
  artdmx_take_header

/-- Settles O17: bytes 14 and 15 are `lowByte u` and `highByte u`. -/
theorem universeBytesAreLowByteFirst : Obligations.UniverseBytesAreLowByteFirst := by
  intro seq phys u f
  have hlow := lowByte_toNat u
  have hhigh := highByte_toNat u
  have hu := u.isLt
  refine ⟨lowByte u, highByte u, artdmx_univLow seq phys u f, artdmx_univHigh seq phys u f,
    ?_, ?_, ?_, ?_, by omega⟩
  · rw [hlow, and_255_eq_mod]
  · rw [hhigh, and_255_eq_mod, shiftRight_eight_eq_div]
    omega
  · apply BitVec.eq_of_toNat_eq
    simp [hlow]
  · apply BitVec.eq_of_toNat_eq
    rw [hhigh, BitVec.extractLsb'_toNat, shiftRight_eight_eq_div]
    omega

/-- Settles O18: bytes 16 and 17 are `lengthHigh f.length` and `lengthLow f.length`. -/
theorem lengthBytesAreHighByteFirst : Obligations.LengthBytesAreHighByteFirst := by
  intro seq phys u f hlen
  have hhigh := lengthHigh_toNat hlen
  have hlow := lengthLow_toNat f.length
  refine ⟨_, _, artdmx_lengthHigh seq phys u f, artdmx_lengthLow seq phys u f, hhigh, hlow, ?_, ?_, by omega⟩
  · apply BitVec.eq_of_toNat_eq
    rw [hhigh, BitVec.extractLsb'_toNat, BitVec.toNat_ofNat, shiftRight_eight_eq_div]
    omega
  · apply BitVec.eq_of_toNat_eq
    rw [hlow, BitVec.extractLsb'_toNat, BitVec.toNat_ofNat, Nat.shiftRight_zero]
    omega

/-- Settles O19: the data section is the frame's bytes, and each byte of a valid frame has its element's value. -/
theorem dataBytesAreTheFrame : Obligations.DataBytesAreTheFrame := by
  intro seq phys u f hframe
  obtain ⟨-, hrange⟩ := (validFrame_iff f).mp hframe
  constructor
  · intro i hi
    have hget : f[i]? = some f[i] := List.getElem?_eq_getElem hi
    refine ⟨byteOfInt f[i], ?_, ?_⟩
    · rw [artdmx_data, hget, Option.map_some]
    · rw [hget, byteOfInt_toNat (hrange _ (List.getElem_mem hi))]
  · rintro rfl
    exact artdmx_drop_data seq phys u []

/-- Settles O20: the Length field has the frame's length. -/
theorem packetLengthAndItsBounds : Obligations.PacketLengthAndItsBounds := by
  intro seq phys u f
  have hlength := artdmx_length seq phys u f
  refine ⟨hlength, fun hlen => ?_⟩
  have hhigh := lengthHigh_toNat hlen
  have hlow := lengthLow_toNat f.length
  exact ⟨by omega, by omega, _, _, artdmx_lengthHigh seq phys u f, artdmx_lengthLow seq phys u f, by omega⟩

end Sys2Proof.Machine
end

section
/-! The reference decoder (30_encoding.md R79, R80). -/

namespace Sys2Proof.Machine

theorem length_header_append (seq phys u0 u1 l1 l0 : Byte) (payload : List Byte) :
    (header ++ seq :: phys :: u0 :: u1 :: l1 :: l0 :: payload).length = 18 + payload.length := by
  simp only [List.length_append, header_length, List.length_cons]
  omega

/-- The decoder on a header and the six bytes after it: it compares the payload's length with the Length field. -/
theorem decodePacket_header_append (seq phys u0 u1 l1 l0 : Byte) (payload : List Byte) :
    decodePacket (header ++ seq :: phys :: u0 :: u1 :: l1 :: l0 :: payload) =
      if payload.length = 256 * l1.toNat + l0.toNat then
        some { seq := seq, phys := phys, univ := BitVec.ofNat 16 (u0.toNat + 256 * u1.toNat),
               frame := payload.map (fun b => (b.toNat : Int)) }
      else none := rfl

/-- The decoder takes a packet exactly where it has the shape of R60 and a Length field that tells its length. -/
theorem decodePacket_isSome_iff (bytes : List Byte) :
    (decodePacket bytes).isSome = true ↔
      ∃ seq phys u0 u1 l1 l0 payload, bytes = header ++ seq :: phys :: u0 :: u1 :: l1 :: l0 :: payload ∧
        payload.length = 256 * l1.toNat + l0.toNat := by
  constructor
  · intro h
    unfold decodePacket at h
    split at h
    case isFalse => cases h
    case isTrue hheader =>
      split at h
      case h_2 => cases h
      case h_1 seq phys u0 u1 l1 l0 payload hrest =>
        refine ⟨seq, phys, u0, u1, l1, l0, payload, ?_, ?_⟩
        · rw [← hheader, ← hrest, List.take_append_drop]
        · by_contra hlen
          rw [if_neg hlen] at h
          cases h
  · rintro ⟨seq, phys, u0, u1, l1, l0, payload, rfl, hlen⟩
    rw [decodePacket_header_append, if_pos hlen]
    rfl

/-- A list of at least six elements, taken apart. -/
theorem exists_cons_six {α : Type} {l : List α} (h : 6 ≤ l.length) :
    ∃ a b c d e g rest, l = a :: b :: c :: d :: e :: g :: rest := by
  match l, h with
  | a :: b :: c :: d :: e :: g :: rest, _ => exact ⟨a, b, c, d, e, g, rest, rfl⟩

/-- Settles O22: what is long enough and begins with the header has the six bytes after it. -/
theorem referenceDecoderAcceptsExactly : Obligations.ReferenceDecoderAcceptsExactly := by
  intro bytes
  rw [decodePacket_isSome_iff]
  constructor
  · rintro ⟨seq, phys, u0, u1, l1, l0, payload, rfl, hlen⟩
    have htotal := length_header_append seq phys u0 u1 l1 l0 payload
    refine ⟨by omega, rfl, ?_⟩
    show _ = 18 + 256 * l1.toNat + l0.toNat
    omega
  · rintro ⟨hlong, hheader, hlength⟩
    obtain ⟨seq, phys, u0, u1, l1, l0, payload, hrest⟩ :=
      exists_cons_six (l := bytes.drop 12) (by rw [List.length_drop]; omega)
    have hbytes : bytes = header ++ seq :: phys :: u0 :: u1 :: l1 :: l0 :: payload := by
      rw [← hrest]
      exact (List.take_append_drop 12 bytes).symm.trans (congrArg (· ++ bytes.drop 12) hheader)
    refine ⟨seq, phys, u0, u1, l1, l0, payload, hbytes, ?_⟩
    have hl1 : bytes.getD 16 0#8 = l1 := by rw [hbytes]; rfl
    have hl0 : bytes.getD 17 0#8 = l0 := by rw [hbytes]; rfl
    have htotal : bytes.length = 18 + payload.length := by rw [hbytes, length_header_append]
    rw [hl1, hl0] at hlength
    omega

theorem map_byteOfInt_toNat {f : Frame} (h : ∀ v ∈ f, 0 ≤ v ∧ v ≤ 255) :
    (f.map byteOfInt).map (fun b => (b.toNat : Int)) = f := by
  rw [List.map_map]
  exact (List.map_congr_left fun v hv => byteOfInt_toNat (h v hv)).trans (List.map_id f)

theorem ofNat_universeBytes (u : Half) : BitVec.ofNat 16 ((lowByte u).toNat + 256 * (highByte u).toNat) = u := by
  rw [lowByte_toNat, highByte_toNat, Nat.mod_add_div, BitVec.ofNat_toNat, BitVec.setWidth_eq]

/-- Settles O21: the Length field tells the frame's length, the universe is that of its two bytes, and the bytes of a
valid frame have its elements' values. -/
theorem referenceDecoderRecoversTheInputs : Obligations.ReferenceDecoderRecoversTheInputs := by
  intro seq phys u f hframe
  obtain ⟨hlen, hrange⟩ := (validFrame_iff f).mp hframe
  have hlength : (f.map byteOfInt).length =
      256 * (lengthHigh f.length).toNat + (lengthLow f.length).toNat := by
    rw [List.length_map, lengthHigh_toNat hlen, lengthLow_toNat, Nat.div_add_mod]
  calc
    decodePacket (artdmx seq phys u f)
      = decodePacket (header ++ seq :: phys :: lowByte u :: highByte u :: lengthHigh f.length ::
          lengthLow f.length :: f.map byteOfInt) := by rw [artdmx_eq, List.append_assoc]; rfl
    _ = some { seq := seq, phys := phys, univ := u, frame := f } := by
      rw [decodePacket_header_append, if_pos hlength, ofNat_universeBytes, map_byteOfInt_toNat hrange]

end Sys2Proof.Machine
end

section
/-! What a command answers (30_encoding.md R76), with its response: it is refused, it raises an error status without
data, or it completes with status OK, and only ENCODE's completion has data. -/

namespace Sys2Proof.Machine

/-- The data of the response of a command that completes. -/
def okData : Instr → List Byte
  | .create _ _ _ => []
  | .configure _ _ _ => []
  | .setUniverse _ => []
  | .send _ => []
  | .close => []
  | .encode seq phys univ frame => artdmx seq phys univ frame

theorem eq_encode_of_okData {i : Instr} (h : okData i ≠ []) : ∃ seq phys u f, i = .encode seq phys u f := by
  cases i with
  | encode seq phys u f => exact ⟨seq, phys, u, f, rfl⟩
  | create host port univ => exact absurd rfl h
  | configure host port univ => exact absurd rfl h
  | setUniverse univ => exact absurd rfl h
  | send frame => exact absurd rfl h
  | close => exact absurd rfl h

/-- The states a command can end in, each with its response. -/
inductive EndsIn (i : Instr) (s : State) : State → Prop where
  | refused (hgated : gated i = true) (habsent : s.life = .absent) : EndsIn i s s.markRefused
  | raised {e : Status} (herror : e ≠ .ok) : EndsIn i s (s.respond { status := e, data := [] })
  | completed (hopen : gated i = true → s.life = .opened) :
      EndsIn i s ((okWrites i s).respond { status := .ok, data := okData i })

/-- An outcome that goes on, to such a state. -/
def Answers (i : Instr) (s : State) (o : Host.Outcome State Fault Refusal) : Prop :=
  ∃ t, o = .next t ∧ EndsIn i s t

section
variable {i : Instr} {s : State}

theorem answers_raise {e : Status} (herror : e ≠ .ok) : Answers i s (raise s e) := ⟨_, rfl, .raised herror⟩

theorem answers_complete (hopen : gated i = true → s.life = .opened) :
    Answers i s (complete (okWrites i s) (okData i)) := ⟨_, rfl, .completed hopen⟩

/-- The gate refuses or raises where the sender is not open (R111). -/
theorem answers_gate {o : Host.Outcome State Fault Refusal} (hgated : gated i = true)
    (h : s.life = .opened → Answers i s o) : Answers i s (gate s o) := by
  cases hl : s.life with
  | absent => rw [gate_absent hl]; exact ⟨_, rfl, .refused hgated hl⟩
  | opened => rw [gate_opened hl]; exact h hl
  | closed => rw [gate_closed hl]; exact answers_raise nofun

/-- A check that raises where it fails. -/
theorem answers_check {check : Bool} {e : Status} {o : Host.Outcome State Fault Refusal} (herror : e ≠ .ok)
    (h : Answers i s o) : Answers i s (if check then o else raise s e) := by
  cases check with
  | true => exact h
  | false => exact answers_raise herror

/-- A draw that raises where the transport fails. -/
theorem answers_draw (a : Answer) {o : Host.Outcome State Fault Refusal} (h : Answers i s o) :
    Answers i s (match a with | .ok => o | .fail => raise s .transportFailure) := by
  cases a with
  | ok => exact h
  | fail => exact answers_raise nofun

end

theorem exec_answers (i : Instr) (s : State) : Answers i s (exec i s) := by
  cases i with
  | create host port univ => exact answers_check nofun (answers_draw _ (answers_complete nofun))
  | configure host port univ =>
    exact answers_gate rfl fun hl => answers_check nofun (answers_complete fun _ => hl)
  | setUniverse univ => exact answers_gate rfl fun hl => answers_check nofun (answers_complete fun _ => hl)
  | send frame =>
    exact answers_gate rfl fun hl => answers_check nofun (answers_draw _ (answers_complete fun _ => hl))
  | close => exact answers_gate rfl fun hl => answers_complete fun _ => hl
  | encode seq phys univ frame => exact answers_check nofun (answers_complete nofun)

theorem endsIn_of_exec {i : Instr} {s t : State} (h : exec i s = .next t) : EndsIn i s t := by
  obtain ⟨u, hu, hends⟩ := exec_answers i s
  rw [hu] at h
  cases h
  exact hends

/-- Settles O42: a command that raises or completes gives its one response; the gate refuses no CREATE and no ENCODE. -/
theorem oneResponseOrARefusal : Obligations.OneResponseOrARefusal := by
  intro i s t h
  cases endsIn_of_exec h with
  | refused hgated habsent =>
    refine .inr ⟨habsent, ?_, ?_, rfl⟩
    · rintro host port univ rfl
      cases hgated
    · rintro seq phys u f rfl
      cases hgated
  | raised herror => exact .inl ⟨rfl, _, rfl, fun hdata => absurd rfl hdata⟩
  | completed hopen =>
    exact .inl ⟨okWrites_refusalMark i s, _, by rw [State.respond_responses, okWrites_responses],
      fun hdata => ⟨rfl, eq_encode_of_okData hdata⟩⟩

/-- A request that leaves the mark clear found it clear and was answered. -/
theorem runRequest_answered {r : Request} {s t : State} (h : runRequest r s = .next t) (hsafe : t.Safe) :
    s.Safe ∧ t.responses.length = s.responses.length + 1 := by
  cases hd : decode r.command with
  | error e =>
    rw [runRequest_error hd] at h
    cases h
    cases hsafe
  | ok i =>
    rw [runRequest_ok hd] at h
    obtain ⟨hmark, r, hresponses, -⟩ | ⟨-, -, -, rfl⟩ := oneResponseOrARefusal i _ t h
    · exact ⟨hmark.symm.trans hsafe, by rw [hresponses, List.length_append]; rfl⟩
    · cases hsafe

/-- Settles O47, by induction on the program. -/
theorem safeRunAnswersEveryCommand : Obligations.SafeRunAnswersEveryCommand := by
  intro rs
  induction rs with
  | nil =>
    intro s t h hsafe
    cases h
    exact ⟨hsafe, rfl⟩
  | cons r rs ih =>
    intro s t h hsafe
    obtain ⟨u, hu⟩ := runRequest_goes_on r s
    rw [runAll_cons hu] at h
    obtain ⟨husafe, hrest⟩ := ih u t h hsafe
    obtain ⟨hssafe, hfirst⟩ := runRequest_answered hu husafe
    exact ⟨hssafe, by rw [hrest, hfirst, List.length_cons]; omega⟩

end Sys2Proof.Machine
end

section
/-! The Sequence and Physical bytes of what SEND dispatches (30_encoding.md R64, R65; 10_state.md R25, R26). -/

namespace Sys2Proof.Machine

/-- A hardwired register reads as 0. -/
@[simp] theorem hardZero_value (z : HardZero) : z.value = 0#8 := by
  cases z
  rfl

/-- An event that a command adds to the history is that of a SEND. -/
theorem appended_event {i : Instr} {s t : State} {e : Event} (h : exec i s = .next t)
    (he : t.history = s.history ++ [e]) : ∃ frame, i = .send frame ∧ e = sendEvent s frame := by
  have hnew : t.history ≠ s.history := by simp [he]
  obtain ⟨-, -, -, -, -, hhist⟩ | ⟨r, rfl⟩ := exec_registers h
  · exact absurd hhist hnew
  · obtain hhist | ⟨frame, hi, hhist⟩ := okWrites_history i s
    · exact absurd hhist hnew
    · refine ⟨frame, hi, ?_⟩
      simpa using he.symm.trans hhist

/-- Settles O16: SEND hands the encoder its two hardwired registers. -/
theorem sequenceAndPhysicalBytes : Obligations.SequenceAndPhysicalBytes := by
  refine ⟨fun seq phys u f => ⟨artdmx_seq seq phys u f, artdmx_phys seq phys u f⟩, ?_⟩
  intro s t f e h he
  obtain ⟨frame, -, rfl⟩ := appended_event h he
  simp only [sendEvent, hardZero_value, artdmx_seq, artdmx_phys, and_self]

end Sys2Proof.Machine
end

section
/-! ENCODE (40_encoder.md R90, R93, R94): the frame check decides its one response, and it reads no register. -/

namespace Sys2Proof.Machine

/-- A frame fails the check by its length or by an element that is no byte (R90). -/
theorem validFrame_eq_false_iff (f : Frame) :
    validFrame f = false ↔ 65535 < f.length ∨ ∃ v ∈ f, v < 0 ∨ 255 < v := by
  rw [← Bool.not_eq_true, validFrame_iff, not_and_or, not_le]
  simp only [not_forall, exists_prop, not_and_or, not_le]

theorem exec_encode_valid {f : Frame} (h : validFrame f = true) (seq phys : Byte) (u : Half) (s : State) :
    exec (.encode seq phys u f) s = .next (s.respond { status := .ok, data := artdmx seq phys u f }) := by
  obtain ⟨hinvalid, -⟩ | ⟨-, hexec⟩ := execEncode_cases seq phys u f s
  · rw [h] at hinvalid
    cases hinvalid
  · exact hexec

theorem exec_encode_invalid {f : Frame} (h : validFrame f = false) (seq phys : Byte) (u : Half) (s : State) :
    exec (.encode seq phys u f) s = .next (s.respond { status := .invalidChannelFrame, data := [] }) := by
  obtain ⟨-, hexec⟩ | ⟨hvalid, -⟩ := execEncode_cases seq phys u f s
  · exact hexec
  · rw [h] at hvalid
    cases hvalid

/-- Settles O12: the check on the elements is the check on the indices, an element being what some index holds. -/
theorem frameCheckIsLengthAndByteRange : Obligations.FrameCheckIsLengthAndByteRange := by
  refine ⟨fun f => (validFrame_iff f).trans (and_congr_right fun _ => ⟨?_, ?_⟩), rfl⟩
  · intro hmem i v hget
    exact hmem v (List.mem_of_getElem? hget)
  · intro hget v hmem
    obtain ⟨i, hi⟩ := List.getElem?_of_mem hmem
    exact hget i v hi

/-- Settles O23: the frame passes the check, and the packet written is the wire format's table. -/
theorem encodeReturnsThePacket : Obligations.EncodeReturnsThePacket := by
  intro seq phys u f s hlen hrange
  have hvalid : validFrame f = true := (validFrame_iff f).mpr ⟨hlen, hrange⟩
  rw [exec_encode_valid hvalid, artdmxIsTheWireFormat, State.respond]

/-- Settles O24: the check on the frame alone selects the response, before any state is given. -/
theorem encodeDependsOnItsOperandsOnly : Obligations.EncodeDependsOnItsOperandsOnly := by
  intro seq phys u f
  cases hvalid : validFrame f with
  | true => exact ⟨_, exec_encode_valid hvalid seq phys u⟩
  | false => exact ⟨_, exec_encode_invalid hvalid seq phys u⟩

/-- Settles O25: either cause fails the check. -/
theorem encodeRaisesInvalidChannelFrame : Obligations.EncodeRaisesInvalidChannelFrame := by
  intro seq phys u f s hcause
  have hinvalid : validFrame f = false := (validFrame_eq_false_iff f).mpr hcause
  rw [exec_encode_invalid hinvalid, State.respond]

end Sys2Proof.Machine
end

section
/-! The lifecycle gate (41_sender.md R111), once for the four commands that pass it: what they do on a sender that is
absent or closed does not depend on their operands. -/

namespace Sys2Proof.Machine

theorem exec_gated_absent {i : Instr} {s : State} (hgated : gated i = true) (hlife : s.life = .absent) :
    exec i s = .next s.markRefused := by
  cases i with
  | create host port univ => cases hgated
  | configure host port univ => exact gate_absent hlife _
  | setUniverse univ => exact gate_absent hlife _
  | send frame => exact gate_absent hlife _
  | close => exact gate_absent hlife _
  | encode seq phys univ frame => cases hgated

theorem exec_gated_closed {i : Instr} {s : State} (hgated : gated i = true) (hlife : s.life = .closed) :
    exec i s = .next (s.respond { status := .senderClosed, data := [] }) := by
  cases i with
  | create host port univ => cases hgated
  | configure host port univ => exact gate_closed hlife _
  | setUniverse univ => exact gate_closed hlife _
  | send frame => exact gate_closed hlife _
  | close => exact gate_closed hlife _
  | encode seq phys univ frame => cases hgated

/-- The four commands that the statements about the gate list. -/
theorem gated_of_mem {host : Option HostName} {port : Option Half} {univ : Option Int} {v : Int} {f : Frame} {i : Instr}
    (h : i ∈ [Instr.configure host port univ, .setUniverse v, .send f, .close]) : gated i = true := by
  simp only [List.mem_cons, List.not_mem_nil, or_false] at h
  obtain rfl | rfl | rfl | rfl := h <;> rfl

/-- Settles O38: all four are gated, and the gate of a closed sender raises before an operand is checked. -/
theorem closedSenderRaisesSenderClosed : Obligations.ClosedSenderRaisesSenderClosed :=
  fun _ _ _ _ _ _ hlife _ hi => exec_gated_closed (gated_of_mem hi) hlife

/-- Settles O39: all four are gated, and the gate refuses where there is no sender. -/
theorem absentSenderRefuses : Obligations.AbsentSenderRefuses :=
  fun _ _ _ _ _ _ hlife _ hi => exec_gated_absent (gated_of_mem hi) hlife

end Sys2Proof.Machine
end

section
/-! Operands that are present, omitted or out of range (30_encoding.md R74, 41_sender.md R110). -/

namespace Sys2Proof.Machine

theorem operandOr_eq_getD {α : Type} (operand : Option α) (otherwise : α) :
    operandOr operand otherwise = operand.getD otherwise := by
  cases operand <;> rfl

/-- CREATE's universe: the default register value is that of the universe 0. -/
theorem operandOr_defaultUniverse (univ : Option Int) :
    operandOr (univ.map halfOfInt) Config.defaultUniverse = BitVec.ofInt 16 (univ.getD 0) := by
  cases univ <;> rfl

theorem validUniverse_eq_false_iff (v : Int) : validUniverse v = false ↔ v < 0 ∨ 65535 < v := by
  rw [← Bool.not_eq_true, validUniverse_iff, not_and_or, not_le, not_le]

theorem validUniverseOperand_eq_false {univ : Option Int} (h : ∃ v, univ = some v ∧ (v < 0 ∨ 65535 < v)) :
    validUniverseOperand univ = false := by
  obtain ⟨v, rfl, hv⟩ := h
  exact (validUniverse_eq_false_iff v).mpr hv

/-- A universe in range is what its register reads as. -/
theorem halfOfInt_toNat {v : Int} (h : 0 ≤ v ∧ v ≤ 65535) : ((halfOfInt v).toNat : Int) = v := by
  rw [halfOfInt, BitVec.toNat_ofInt]
  omega

end Sys2Proof.Machine
end

section
/-! CREATE (41_sender.md R112): its universe check comes before the acquisition, and it reads no lifecycle. -/

namespace Sys2Proof.Machine

section
variable {univ : Option Int} {s : State} (host : Option HostName) (port : Option Half)

theorem exec_create_invalid (hvalid : validUniverseOperand univ = false) :
    exec (.create host port univ) s = .next (s.respond { status := .invalidUniverse, data := [] }) := by
  show execCreate host port univ s = _
  rw [execCreate, hvalid]
  rfl

theorem exec_create_unacquired (hvalid : validUniverseOperand univ = true) (hanswer : s.answer = .fail) :
    exec (.create host port univ) s = .next (s.respond { status := .transportFailure, data := [] }) := by
  show execCreate host port univ s = _
  rw [execCreate, if_pos hvalid, acquire, hanswer]
  rfl

theorem exec_create_completes (hvalid : validUniverseOperand univ = true) (hanswer : s.answer = .ok) :
    exec (.create host port univ) s =
      .next ((s.newSender host port univ).respond { status := .ok, data := [] }) := by
  show execCreate host port univ s = _
  rw [execCreate, if_pos hvalid, acquire, hanswer]
  rfl

end

/-- Settles O26: CREATE completes with the writes of `newSender`. -/
theorem createOpensANewSender : Obligations.CreateOpensANewSender := by
  intro host port univ s hrange hanswer
  rw [exec_create_completes host port ((validUniverseOperand_iff univ).mpr hrange) hanswer]
  simp only [State.newSender_eq, State.respond, operandOr_eq_getD host, operandOr_eq_getD port,
    operandOr_defaultUniverse]

/-- Settles O28: the universe check comes first and reads no answer. -/
theorem createReportsTheFirstError : Obligations.CreateReportsTheFirstError := by
  intro host port univ s
  refine ⟨fun hbad => exec_create_invalid host port (validUniverseOperand_eq_false hbad), fun hrange hanswer => ?_⟩
  exact exec_create_unacquired host port ((validUniverseOperand_iff univ).mpr hrange) hanswer

/-- Settles O27: both answers are those of any CREATE with no operands, and the new sender made at power-on is the reset
state. -/
theorem createAtPowerOnGivesTheResetState : Obligations.CreateAtPowerOnGivesTheResetState := by
  intro a
  cases a with
  | ok => exact createOpensANewSender none none none { State.powerOn with answer := .ok } nofun rfl
  | fail => exact (createReportsTheFirstError none none none { State.powerOn with answer := .fail }).2 nofun rfl

end Sys2Proof.Machine
end

section
/-! CONFIGURE, SET_UNIVERSE and CLOSE on an open sender (41_sender.md R113, R114, R116). -/

namespace Sys2Proof.Machine

section
variable {s : State} (hlife : s.life = .opened)
include hlife

theorem exec_configure_opened (host : Option HostName) (port : Option Half) (univ : Option Int) :
    exec (.configure host port univ) s =
      if validUniverseOperand univ then
        .next ((s.reconfigured host port univ).respond { status := .ok, data := [] })
      else .next (s.respond { status := .invalidUniverse, data := [] }) :=
  gate_opened hlife _

theorem exec_setUniverse_opened (v : Int) :
    exec (.setUniverse v) s =
      if validUniverse v then .next ((s.setUniv (halfOfInt v)).respond { status := .ok, data := [] })
      else .next (s.respond { status := .invalidUniverse, data := [] }) :=
  gate_opened hlife _

theorem exec_close_opened : exec .close s = .next (s.closeSender.respond { status := .ok, data := [] }) :=
  gate_opened hlife _

end

/-- Settles O29: CONFIGURE completes with the writes of `reconfigured`. -/
theorem configureWritesThePresentOperands : Obligations.ConfigureWritesThePresentOperands := by
  intro host port univ s hlife hrange
  rw [exec_configure_opened hlife, if_pos ((validUniverseOperand_iff univ).mpr hrange)]
  simp only [State.reconfigured_eq, State.respond, operandOr_eq_getD]
  rfl

/-- Settles O30: the register is written with the operand's 16 bits, which read as the operand. -/
theorem setUniverseWritesTheRegister : Obligations.SetUniverseWritesTheRegister := by
  intro v s hlife hmin hmax
  refine ⟨halfOfInt v, halfOfInt_toNat ⟨hmin, hmax⟩, ?_⟩
  rw [exec_setUniverse_opened hlife, if_pos ((validUniverse_iff v).mpr ⟨hmin, hmax⟩), State.setUniv, State.respond]

/-- Settles O31: both commands check the universe before they write a register. -/
theorem badUniverseWritesNoRegister : Obligations.BadUniverseWritesNoRegister := by
  intro host port v s hlife hbad
  have hvalid : validUniverse v = false := (validUniverse_eq_false_iff v).mpr hbad
  have hoperand : validUniverseOperand (some v) = false := hvalid
  rw [exec_configure_opened hlife, hoperand, exec_setUniverse_opened hlife, hvalid]
  exact ⟨rfl, rfl⟩

/-- Settles O32: the gate passes, and CLOSE has no check of its own. -/
theorem closeReleasesTheResource : Obligations.CloseReleasesTheResource :=
  fun _ hlife => exec_close_opened hlife

end Sys2Proof.Machine
end

section
/-! SEND (41_sender.md R115): the gate, then the frame, then the submission decide its answer; the event of a completed
one carries the wire format's packet of the registers. -/

namespace Sys2Proof.Machine

/-- The event is the packet of the current universe with Sequence and Physical 0, for the current host and port. -/
theorem sendEvent_eq (s : State) (f : Frame) :
    sendEvent s f = { host := s.host, port := s.port, bytes := wirePacket 0#8 0#8 s.univ.toNat f } := by
  rw [sendEvent, hardZero_value, artdmxIsTheWireFormat]

/-- Where the transport answers FAIL nothing is submitted, whether the resource is held or not (R153). -/
theorem submit_fail {s : State} (h : s.answer = .fail) (e : Event) : submit s e = .fail := by
  cases hx : s.xport with
  | held => exact (submit_held hx e).trans h
  | released => exact submit_released hx e

theorem exec_send_invalid {f : Frame} {s : State} (hlife : s.life = .opened) (hframe : validFrame f = false) :
    exec (.send f) s = .next (s.respond { status := .invalidChannelFrame, data := [] }) := by
  show execSend f s = _
  rw [execSend, gate_opened hlife, hframe]
  rfl

theorem exec_send_unsubmitted {f : Frame} {s : State} (hlife : s.life = .opened) (hframe : validFrame f = true)
    (hsubmit : submit s (sendEvent s f) = .fail) :
    exec (.send f) s = .next (s.respond { status := .transportFailure, data := [] }) := by
  show execSend f s = _
  rw [execSend, gate_opened hlife, if_pos hframe, hsubmit]
  rfl

/-- Settles O33: SEND completes, and its event is the wire format's packet. -/
theorem sendDispatchesOnePacket : Obligations.SendDispatchesOnePacket := by
  intro f s hlife hxport hlen hrange hanswer
  have hframe : validFrame f = true := (validFrame_iff f).mpr ⟨hlen, hrange⟩
  rw [execSend_completes hlife hxport hframe hanswer, sendEvent_eq, State.appendEvent, State.respond]

/-- Settles O34: one clause for each of the three checks, in their order. -/
theorem sendReportsTheFirstError : Obligations.SendReportsTheFirstError := by
  intro f s
  refine ⟨fun hclosed => exec_gated_closed rfl hclosed,
    fun hlife hbad => exec_send_invalid hlife ((validFrame_eq_false_iff f).mpr hbad),
    fun hlife hlen hrange hanswer => ?_⟩
  exact exec_send_unsubmitted hlife ((validFrame_iff f).mpr ⟨hlen, hrange⟩) (submit_fail hanswer _)

/-- Settles O40: CLOSE leaves a closed sender, whose gate stops the SEND. -/
theorem sendAfterCloseIsSenderClosed : Obligations.SendAfterCloseIsSenderClosed := by
  intro f s hlife
  have hclosed (r : Response) : (s.closeSender.respond r).life = .closed := rfl
  refine ⟨_, _, exec_close_opened hlife, exec_gated_closed rfl (hclosed _), ?_, ?_⟩ <;>
    simp [State.closeSender_eq]

end Sys2Proof.Machine
end

section
/-! What a run adds to the history is events of SENDs (10_state.md R28), so no packet of any run has a Sequence or a
Physical byte other than 0 (41_sender.md R117). -/

namespace Sys2Proof.Machine

/-- The history of `t` is that of `s` with events of SENDs added at its end. -/
def State.OnlySendsSince (s t : State) : Prop :=
  ∃ sent, t.history = s.history ++ sent ∧ ∀ e ∈ sent, ∃ (u : State) (frame : Frame), e = sendEvent u frame

theorem State.OnlySendsSince.of_history_eq {s t : State} (h : t.history = s.history) : s.OnlySendsSince t :=
  ⟨[], by rw [h, List.append_nil], nofun⟩

theorem State.OnlySendsSince.trans {s t u : State} (hst : s.OnlySendsSince t) (htu : t.OnlySendsSince u) :
    s.OnlySendsSince u := by
  obtain ⟨sent, hsent, hevents⟩ := hst
  obtain ⟨sent', hsent', hevents'⟩ := htu
  exact ⟨sent ++ sent', by rw [hsent', hsent, List.append_assoc], List.forall_mem_append.mpr ⟨hevents, hevents'⟩⟩

theorem exec_onlySendsSince {i : Instr} {s t : State} (h : exec i s = .next t) : s.OnlySendsSince t := by
  obtain ⟨-, -, -, -, -, hhist⟩ | ⟨r, rfl⟩ := exec_registers h
  · exact .of_history_eq hhist
  · obtain hhist | ⟨frame, -, hhist⟩ := okWrites_history i s
    · exact .of_history_eq hhist
    · exact ⟨[sendEvent s frame], hhist, List.forall_mem_singleton.mpr ⟨s, frame, rfl⟩⟩

theorem step_onlySendsSince {s t : State} (h : step s = .next t) : s.OnlySendsSince t := by
  have hturn : s.OnlySendsSince (takeTurn s) := .of_history_eq (takeTurn_history s)
  obtain ⟨-, hs⟩ | ⟨r, e, -, -, hs⟩ | ⟨r, i, -, -, hs⟩ := step_cases s <;> rw [hs] at h
  · cases h
    exact hturn
  · cases h
    exact hturn.trans (.of_history_eq (State.markRefused_history _))
  · exact hturn.trans (.trans (.of_history_eq (State.setAnswer_history _ _)) (exec_onlySendsSince h))

theorem run_onlySendsSince {n : Nat} {s t : State}
    (h : core.run n s = (.next t : Host.Outcome State Fault Refusal)) : s.OnlySendsSince t :=
  run_induction (fun _ _ hu hstep => hu.trans (step_onlySendsSince hstep)) n s t (.of_history_eq rfl) h

theorem hardZero_eq (y z : HardZero) : y = z := by
  cases y
  cases z
  rfl

/-- Settles O36: what the run added is events of SENDs, whose packets are built from the two hardwired registers. -/
theorem sequenceByteIsNeverIncremented : Obligations.SequenceByteIsNeverIncremented := by
  intro n s t h
  refine ⟨hardZero_value s.seq, hardZero_value t.seq, hardZero_eq t.seq s.seq, ?_⟩
  obtain ⟨sent, hsent, hevents⟩ := run_onlySendsSince h
  rw [hsent, List.drop_left]
  intro e he
  obtain ⟨u, frame, rfl⟩ := hevents e he
  simp only [sendEvent, hardZero_value, artdmx_seq, artdmx_phys, and_self]

end Sys2Proof.Machine
end

section
/-! Errors (60_exceptions.md R140, R145, R146): no step stops, an error status comes alone, and each command returns only
the statuses of its row of R140's table. -/

namespace Sys2Proof.Machine

/-- Settles O8: whatever is presented, decoded or not, leads to a next state. -/
theorem noStepEverStops : Obligations.NoStepEverStops := step_goes_on

/-- The one response that a state has more than another is the one just recorded. -/
theorem eq_of_respond_responses {s u : State} {q r : Response} (hkeep : u.responses = s.responses)
    (h : (u.respond q).responses = s.responses ++ [r]) : q = r := by
  simpa [hkeep] using h

/-- A refusal records no response (R145). -/
theorem markRefused_responses_ne (s : State) (r : Response) : s.markRefused.responses ≠ s.responses ++ [r] := by
  simp

/-- Settles O41: a refusal has no response and a completion has status OK, so an error status is that of a raise. -/
theorem errorsArePrecise : Obligations.ErrorsArePrecise := by
  intro i s t r h hr herror
  cases endsIn_of_exec h with
  | refused => exact absurd hr (markRefused_responses_ne s r)
  | raised =>
    obtain rfl := eq_of_respond_responses rfl hr
    exact ⟨rfl, rfl⟩
  | completed =>
    obtain rfl := eq_of_respond_responses (okWrites_responses i s) hr
    exact absurd rfl herror

/-- The statuses that the table of R140 gives a command. -/
@[simp] def statuses : Instr → List Status
  | .create _ _ _ => [.ok, .invalidUniverse, .transportFailure]
  | .configure _ _ _ => [.ok, .invalidUniverse, .senderClosed]
  | .setUniverse _ => [.ok, .invalidUniverse, .senderClosed]
  | .send _ => [.ok, .invalidChannelFrame, .senderClosed, .transportFailure]
  | .close => [.ok, .senderClosed]
  | .encode _ _ _ _ => [.ok, .invalidChannelFrame]

/-- Any response that an outcome adds to those of `s` has one of the listed statuses. -/
def RespondsWith (allowed : List Status) (s : State) (o : Host.Outcome State Fault Refusal) : Prop :=
  ∀ (t : State) (r : Response), o = .next t → t.responses = s.responses ++ [r] → r.status ∈ allowed

section
variable {allowed : List Status} {s u : State} {o : Host.Outcome State Fault Refusal}

theorem RespondsWith.of_refused (h : o = .next s.markRefused) : RespondsWith allowed s o := by
  intro t r ht hr
  cases h.symm.trans ht
  exact absurd hr (markRefused_responses_ne s r)

theorem RespondsWith.of_respond {e : Status} {bytes : List Byte}
    (h : o = .next (u.respond { status := e, data := bytes })) (hkeep : u.responses = s.responses)
    (he : e ∈ allowed) : RespondsWith allowed s o := by
  intro t r ht hr
  cases h.symm.trans ht
  obtain rfl := eq_of_respond_responses hkeep hr
  exact he

end

theorem exec_respondsWith (i : Instr) (s : State) : RespondsWith (statuses i) s (exec i s) := by
  have hkeep : (okWrites i s).responses = s.responses := okWrites_responses i s
  cases i with
  | create host port univ =>
    obtain ⟨-, h⟩ | ⟨-, -, h⟩ | ⟨-, -, h⟩ := execCreate_cases host port univ s
    · exact .of_respond h rfl (by simp)
    · exact .of_respond h rfl (by simp)
    · exact .of_respond h hkeep (by simp)
  | configure host port univ =>
    obtain ⟨-, h⟩ | ⟨-, h⟩ | ⟨-, -, h⟩ | ⟨-, -, h⟩ := execConfigure_cases host port univ s
    · exact .of_refused h
    · exact .of_respond h rfl (by simp)
    · exact .of_respond h rfl (by simp)
    · exact .of_respond h hkeep (by simp)
  | setUniverse univ =>
    obtain ⟨-, h⟩ | ⟨-, h⟩ | ⟨-, -, h⟩ | ⟨-, -, h⟩ := execSetUniverse_cases univ s
    · exact .of_refused h
    · exact .of_respond h rfl (by simp)
    · exact .of_respond h rfl (by simp)
    · exact .of_respond h hkeep (by simp)
  | send frame =>
    obtain ⟨-, h⟩ | ⟨-, h⟩ | ⟨-, -, h⟩ | ⟨-, -, -, h⟩ | ⟨-, -, -, h⟩ := execSend_cases frame s
    · exact .of_refused h
    · exact .of_respond h rfl (by simp)
    · exact .of_respond h rfl (by simp)
    · exact .of_respond h rfl (by simp)
    · exact .of_respond h hkeep (by simp)
  | close =>
    obtain ⟨-, h⟩ | ⟨-, h⟩ | ⟨-, h⟩ := execClose_cases s
    · exact .of_refused h
    · exact .of_respond h rfl (by simp)
    · exact .of_respond h hkeep (by simp)
  | encode seq phys univ frame =>
    obtain ⟨-, h⟩ | ⟨-, h⟩ := execEncode_cases seq phys univ frame s
    · exact .of_respond h rfl (by simp)
    · exact .of_respond h hkeep (by simp)

/-- Settles O43: the command's answers, held against its row of the table. -/
theorem statusesOfEachCommand : Obligations.StatusesOfEachCommand := by
  intro i s t r h hr
  have hstatus : r.status ∈ statuses i := exec_respondsWith i s t r h hr
  cases i <;> simpa using hstatus

end Sys2Proof.Machine
end

section
/-! The invariant of every reachable state (70_reset_and_hazards.md R174): each update keeps it, under what that update
needs, so each command keeps it (30_encoding.md R76, 41_sender.md R117) and so does every step. -/

namespace Sys2Proof.Machine

/-- The packet of a valid frame is one the reference decoder takes (R80), and its Sequence and Physical bytes are 0. -/
theorem senderPacket_sendEvent {f : Frame} (hframe : validFrame f = true) (s : State) :
    senderPacket (sendEvent s f).bytes = true := by
  rw [senderPacket, sendEvent, referenceDecoderRecoversTheInputs _ _ _ f hframe]
  simp

theorem responseWf_noData (e : Status) : responseWf { status := e, data := [] } = true := by
  cases e <;> rfl

theorem responseWf_packet {f : Frame} (hframe : validFrame f = true) (seq phys : Byte) (u : Half) :
    responseWf { status := .ok, data := artdmx seq phys u f } = true := by
  simp [responseWf, referenceDecoderRecoversTheInputs seq phys u f hframe]

section
variable {s : State} (hs : s.Inv)
include hs

theorem inv_respond {r : Response} (hr : responseWf r = true) : (s.respond r).Inv := by
  obtain ⟨hxport, hhistory, hresponses⟩ := hs
  exact ⟨hxport, hhistory, List.forall_mem_append.mpr ⟨hresponses, List.forall_mem_singleton.mpr hr⟩⟩

theorem inv_appendEvent {e : Event} (he : senderPacket e.bytes = true) : (s.appendEvent e).Inv := by
  obtain ⟨hxport, hhistory, hresponses⟩ := hs
  exact ⟨hxport, List.forall_mem_append.mpr ⟨hhistory, List.forall_mem_singleton.mpr he⟩, hresponses⟩

/-- CREATE leaves the sender open with its resource held, whatever it finds (R112). -/
theorem inv_newSender (host : Option HostName) (port : Option Half) (univ : Option Int) :
    (s.newSender host port univ).Inv := by
  obtain ⟨-, hhistory, hresponses⟩ := hs
  rw [State.newSender_eq]
  exact ⟨iff_of_true rfl rfl, hhistory, hresponses⟩

/-- CLOSE leaves the sender closed with its resource released (R116). -/
theorem inv_closeSender : s.closeSender.Inv := by
  obtain ⟨-, hhistory, hresponses⟩ := hs
  exact ⟨iff_of_false nofun nofun, hhistory, hresponses⟩

theorem inv_takeTurn : (takeTurn s).Inv := by
  rw [takeTurn_eq]
  exact hs

end

/-- An outcome that goes on, to a state of the invariant. -/
def GoesOnInInv (o : Host.Outcome State Fault Refusal) : Prop := ∃ t, o = .next t ∧ t.Inv

section
variable {s : State} {o : Host.Outcome State Fault Refusal}

theorem goesOnInInv_complete (hs : s.Inv) {bytes : List Byte}
    (hr : responseWf { status := .ok, data := bytes } = true) : GoesOnInInv (complete s bytes) :=
  ⟨_, rfl, inv_respond hs hr⟩

theorem goesOnInInv_raise (hs : s.Inv) (e : Status) : GoesOnInInv (raise s e) :=
  ⟨_, rfl, inv_respond hs (responseWf_noData e)⟩

theorem goesOnInInv_gate (hs : s.Inv) (h : GoesOnInInv o) : GoesOnInInv (gate s o) := by
  cases hl : s.life with
  | absent => rw [gate_absent hl]; exact ⟨_, rfl, hs⟩
  | opened => rw [gate_opened hl]; exact h
  | closed => rw [gate_closed hl]; exact goesOnInInv_raise hs .senderClosed

theorem goesOnInInv_check (hs : s.Inv) {check : Bool} {e : Status} (h : check = true → GoesOnInInv o) :
    GoesOnInInv (if check then o else raise s e) := by
  cases check with
  | true => exact h rfl
  | false => exact goesOnInInv_raise hs e

theorem goesOnInInv_draw (hs : s.Inv) (a : Answer) (h : GoesOnInInv o) :
    GoesOnInInv (match a with | .ok => o | .fail => raise s .transportFailure) := by
  cases a with
  | ok => exact h
  | fail => exact goesOnInInv_raise hs .transportFailure

end

/-- SEND and ENCODE build a packet of a frame that passed the check only; the other commands build none. -/
theorem exec_goesOnInInv (i : Instr) {s : State} (hs : s.Inv) : GoesOnInInv (exec i s) := by
  have hnone : responseWf { status := .ok, data := [] } = true := responseWf_noData .ok
  cases i with
  | create host port univ =>
    exact goesOnInInv_check hs fun _ =>
      goesOnInInv_draw hs _ (goesOnInInv_complete (inv_newSender hs host port univ) hnone)
  | configure host port univ =>
    have hwritten : (s.reconfigured host port univ).Inv := hs
    exact goesOnInInv_gate hs (goesOnInInv_check hs fun _ => goesOnInInv_complete hwritten hnone)
  | setUniverse univ =>
    have hwritten : (s.setUniv (halfOfInt univ)).Inv := hs
    exact goesOnInInv_gate hs (goesOnInInv_check hs fun _ => goesOnInInv_complete hwritten hnone)
  | send frame =>
    refine goesOnInInv_gate hs (goesOnInInv_check hs fun hframe => goesOnInInv_draw hs _ ?_)
    exact goesOnInInv_complete (inv_appendEvent hs (senderPacket_sendEvent hframe s)) hnone
  | close => exact goesOnInInv_gate hs (goesOnInInv_complete (inv_closeSender hs) hnone)
  | encode seq phys univ frame =>
    exact goesOnInInv_check hs fun hframe => goesOnInInv_complete hs (responseWf_packet hframe seq phys univ)

/-- Settles O48: the turn and the draw of an answer write nothing the invariant reads, a refusal sets the mark alone, and
every command keeps the invariant. -/
theorem everyStepKeepsTheInvariant : Obligations.EveryStepKeepsTheInvariant := by
  intro s t hs hstep
  have hturn : (takeTurn s).Inv := inv_takeTurn hs
  obtain ⟨-, h⟩ | ⟨r, e, -, -, h⟩ | ⟨r, i, -, -, h⟩ := step_cases s
  · cases h.symm.trans hstep
    exact hturn
  · cases h.symm.trans hstep
    exact hturn
  · obtain ⟨u, hu, hinv⟩ := exec_goesOnInInv i (s := (takeTurn s).setAnswer r.answer) hturn
    cases (h.trans hu).symm.trans hstep
    exact hinv

/-- Settles O49: at reset the sender is open with its resource held, at power-on it is neither, and both lists are
empty. -/
theorem invariantAtResetAndPowerOn : Obligations.InvariantAtResetAndPowerOn :=
  ⟨⟨iff_of_true rfl rfl, nofun, nofun⟩, ⟨iff_of_false nofun nofun, nofun, nofun⟩⟩

/-- Settles O50: the values of R172 as the definition gives them. -/
theorem powerOnStateIsAbsent : Obligations.PowerOnStateIsAbsent :=
  ⟨rfl, hardZero_value _, hardZero_value _, rfl, rfl, rfl⟩

/-- Settles O51: the values of R171 as the definition gives them. -/
theorem resetStateIsOpenWithDefaults : Obligations.ResetStateIsOpenWithDefaults :=
  ⟨rfl, rfl, rfl, rfl, rfl, hardZero_value _, hardZero_value _, rfl, rfl, rfl, rfl⟩

end Sys2Proof.Machine
end

section
/-! The step with no command to take (70_reset_and_hazards.md R170, log 5): only a turn can pass. -/

namespace Sys2Proof.Machine

theorem step_of_nextRequest_none {s : State} (h : nextRequest s = none) : step s = .next (takeTurn s) := by
  rw [step, h]

/-- A turn of a caller with nothing outstanding, whether it has an empty queue or none, leaves every queue. -/
theorem takeTurn_of_empty_queue {s : State} {c : Nat} {cs : List Nat} (hsched : s.schedule = c :: cs)
    (hcaller : s.callers[c]? = none ∨ s.callers[c]? = some []) : takeTurn s = { s with schedule := cs } := by
  rw [takeTurn_cons hsched]
  obtain hnone | hempty := hcaller
  · rw [List.set_eq_of_length_le (List.getElem?_eq_none_iff.mp hnone)]
  · obtain ⟨hlt, hget⟩ := List.getElem?_eq_some_iff.mp hempty
    rw [outstanding_of_getElem? hempty, List.tail_nil, ← hget, List.set_getElem_self]

theorem outstanding_eq_nil {s : State} {c : Nat} (h : s.callers[c]? = none ∨ s.callers[c]? = some []) :
    s.outstanding c = [] := by
  obtain h | h := h <;> simp [State.outstanding, h]

/-- Settles O7: there is no next request in either case, and the turn that passes leaves the queues. -/
theorem stepWithoutCommandWaits : Obligations.StepWithoutCommandWaits := by
  refine fun s => ⟨fun hsched => ?_, fun c cs hsched hcaller => ?_⟩
  · rw [step_of_nextRequest_none (nextRequest_nil hsched), takeTurn_nil hsched]
  · have hnext : nextRequest s = none := by
      rw [nextRequest_cons hsched, outstanding_eq_nil hcaller, List.head?_nil]
    rw [step_of_nextRequest_none hnext, takeTurn_of_empty_queue hsched hcaller]

end Sys2Proof.Machine
end

section
/-! A write of the configuration and a SEND (70_reset_and_hazards.md R175, R179): the SEND's event has the endpoint and
the universe that stand in the registers when it comes. -/

namespace Sys2Proof.Machine

/-- The state with another endpoint and another universe. -/
def State.withTarget (s : State) (host : HostName) (port : Half) (u : Half) : State :=
  { s with host := host, port := port, univ := u }

/-- On every open sender with the endpoint and the universe of `s`, the command completes and leaves the given ones. -/
def Configures (i : Instr) (s : State) (host : HostName) (port : Half) (u : Half) : Prop :=
  ∀ t : State, t.life = .opened → t.host = s.host → t.port = s.port → t.univ = s.univ →
    exec i t = .next ((t.withTarget host port u).respond { status := .ok, data := [] })

/-- What a register reads as passes the check. -/
theorem validUniverse_toNat (u : Half) : validUniverse (u.toNat : Int) = true :=
  (validUniverse_iff _).mpr (by have := u.isLt; omega)

theorem halfOfInt_natCast_toNat (u : Half) : halfOfInt (u.toNat : Int) = u := by
  rw [halfOfInt, BitVec.ofInt_natCast, BitVec.ofNat_toNat, BitVec.setWidth_eq]

theorem configures_setUniverse (s : State) (u : Half) : Configures (.setUniverse (u.toNat : Int)) s s.host s.port u := by
  intro t hlife hhost hport _
  rw [exec_setUniverse_opened hlife, if_pos (validUniverse_toNat u), halfOfInt_natCast_toNat, ← hhost, ← hport]
  rfl

/-- A universe that is omitted reads as the register does, so the universe that is left tells both forms (R74, R113). -/
theorem configures_configure {s : State} (host : Option HostName) (port : Option Half) {univ : Option Int} {u : Half}
    (hu : (u.toNat : Int) = univ.getD (s.univ.toNat : Int)) :
    Configures (.configure host port univ) s (host.getD s.host) (port.getD s.port) u := by
  intro t hlife hhost hport huniv
  have hwritten : validUniverseOperand univ = true ∧ operandOr (univ.map halfOfInt) s.univ = u := by
    cases univ with
    | none => exact ⟨rfl, (BitVec.eq_of_toNat_eq (Int.ofNat_inj.mp hu)).symm⟩
    | some v =>
      obtain rfl : (u.toNat : Int) = v := hu
      exact ⟨validUniverse_toNat u, halfOfInt_natCast_toNat u⟩
  obtain ⟨hvalid, hreg⟩ := hwritten
  rw [exec_configure_opened hlife, if_pos hvalid, State.reconfigured_eq, operandOr_eq_getD, operandOr_eq_getD, hhost,
    hport, huniv, hreg]
  rfl

/-- Settles O35: both commands are writes of the configuration that leave the universe `v`, and the SEND after them finds
it. -/
theorem universeWriteReachesTheNextSendOnly : Obligations.UniverseWriteReachesTheNextSendOnly := by
  intro v f s hlife hxport hanswer hmin hmax hlen hrange i hi
  have hread : ((halfOfInt v).toNat : Int) = v := halfOfInt_toNat ⟨hmin, hmax⟩
  have hconf : Configures i s s.host s.port (halfOfInt v) := by
    obtain rfl | rfl : i = .setUniverse v ∨ i = .configure none none (some v) := by simpa using hi
    · simpa only [hread] using configures_setUniverse s (halfOfInt v)
    · exact configures_configure none none hread
  refine ⟨_, _, hconf s hlife rfl rfl rfl, rfl, sendDispatchesOnePacket f _ hlife hxport hlen hrange hanswer, ?_⟩
  have hnat : v.toNat = (halfOfInt v).toNat := by omega
  rw [hnat]
  rfl

end Sys2Proof.Machine
end

section
/-! Two callers with one command each (20_memory.md R51): both orders of their turns are executions, and the races of
70_reset_and_hazards.md R175 and R178 are the two lists of commands. -/

namespace Sys2Proof.Machine

/-- A presented command is executed with its own answer. -/
theorem runRequest_encode (i : Instr) (a : Answer) (s : State) :
    runRequest { command := encode i, answer := a } s = exec i (s.setAnswer a) :=
  runRequest_ok (r := { command := encode i, answer := a }) (decodeInvertsEncode i) s

theorem runAll_pair {i j : Instr} {a b : Answer} {s t u : State} (hi : exec i (s.setAnswer a) = .next t)
    (hj : exec j (t.setAnswer b) = .next u) :
    runAll [{ command := encode i, answer := a }, { command := encode j, answer := b }] s = .next u := by
  rw [runAll_cons ((runRequest_encode i a s).trans hi), runAll_cons ((runRequest_encode j b t).trans hj), runAll]

/-- Either order of one command of caller 0 and one of caller 1 holds what each has outstanding. -/
theorem queue_of_bothOrders {s : State} {q r : Request} (hcallers : s.callers = [[q], [r]])
    {order : List (Nat × Request)} (horder : order = [(0, q), (1, r)] ∨ order = [(1, r), (0, q)]) (c : Nat) :
    (order.filter (fun p => p.1 == c)).map Prod.snd = s.outstanding c := by
  rw [State.outstanding, hcallers]
  obtain rfl | rfl := horder
  all_goals
    match c with
    | 0 => rfl
    | 1 => rfl
    | c + 2 => rfl

section
variable {i j : Instr} {a b : Answer} {s t u : State}
  (hcallers : s.callers = [[{ command := encode i, answer := a }], [{ command := encode j, answer := b }]])
include hcallers

theorem run_firstCallerFirst (hi : exec i (s.drained.setAnswer a) = .next t) (hj : exec j (t.setAnswer b) = .next u) :
    core.run 2 { s with schedule := [0, 1] } = (.next u : Host.Outcome State Fault Refusal) :=
  (everyInterleavingIsAnExecution s _ (queue_of_bothOrders hcallers (.inl rfl))).trans (runAll_pair hi hj)

theorem run_secondCallerFirst (hj : exec j (s.drained.setAnswer b) = .next t) (hi : exec i (t.setAnswer a) = .next u) :
    core.run 2 { s with schedule := [1, 0] } = (.next u : Host.Outcome State Fault Refusal) :=
  (everyInterleavingIsAnExecution s _ (queue_of_bothOrders hcallers (.inr rfl))).trans (runAll_pair hj hi)

end

/-- Settles O52: the command writes the same configuration before the SEND and after it, and the SEND keeps the registers. -/
theorem configurationRaceHasBothOutcomes : Obligations.ConfigurationRaceHasBothOutcomes := by
  intro i host' port' univ' f a s hlife hxport hlen hrange hi hcallers
  have hconf : Configures i s host' port' univ' := by
    obtain ⟨rfl, rfl, rfl⟩ | ⟨host, port, univ, rfl, -, rfl, rfl, hu⟩ := hi
    · exact configures_setUniverse s univ'
    · exact configures_configure host port hu
  constructor
  · exact ⟨_, run_firstCallerFirst hcallers (hconf _ hlife rfl rfl rfl)
      (sendDispatchesOnePacket f _ hlife hxport hlen hrange rfl), rfl, rfl, rfl, rfl⟩
  · exact ⟨_, run_secondCallerFirst hcallers (sendDispatchesOnePacket f _ hlife hxport hlen hrange rfl)
      (hconf _ hlife rfl rfl rfl), rfl, rfl, rfl, rfl⟩

/-- Settles O53: the SEND finds the sender open, or CLOSE has closed it and the gate raises. -/
theorem closeRaceHasBothOutcomes : Obligations.CloseRaceHasBothOutcomes := by
  intro f a s hlife hxport hlen hrange hcallers
  constructor
  · refine ⟨_, run_firstCallerFirst hcallers (sendDispatchesOnePacket f _ hlife hxport hlen hrange rfl)
      (exec_close_opened hlife), rfl, rfl, ?_⟩
    exact List.append_assoc _ _ _
  · refine ⟨_, run_secondCallerFirst hcallers (exec_close_opened hlife) (exec_gated_closed rfl rfl), rfl, rfl, ?_⟩
    exact List.append_assoc _ _ _

end Sys2Proof.Machine
end
